-- ==== Sys2Proof/Word.lean ====
section
/-! DEFINITION. The widths of the block (00_scope.md section 4) and nothing else. -/

namespace Sys2Proof

/-- A command byte, the value of a byte transaction, `sel`, or the 8-bit `bus` (R23, R24, R74). -/
abbrev Byte := BitVec 8

/-- The content of one register slot: 16 bits, unsigned (R21). -/
abbrev Slot := BitVec 16

/-- A register number masked to 5 bits (R22). -/
abbrev Index := BitVec 5

/-- Bits 7:5 of a command byte, which every indexed row of the opcode table leaves free (R78). -/
abbrev Bank := BitVec 3

/-- An address a bus master sends to: 7 bits (R50, R70). -/
abbrev BusAddress := BitVec 7

/-- One bus transaction as the 32-bit descriptor of 30_encoding.md (R71). -/
abbrev Descriptor := BitVec 32

/-- The register array `R`: always exactly 32 slots (R21). -/
abbrev Slots := Vector Slot 32

end Sys2Proof
end

