-- ==== Sys2Proof/Machine/Flags.lean ====
section
/-! DEFINITION. The block has no status flags (R28); the one thing a write computes beside its effect is the internal
`applied` signal, and it depends on the write class alone. This file holds the write dispatch table and that signal. -/

namespace Sys2Proof.Machine

/-- The six write classes (R77, R115). -/
inductive WriteClass where
  | readOnly
  | verbatimWithMirror
  | maskedWithResetTrigger
  | maskedWithFanRecompute
  | masked
  | verbatim
  deriving DecidableEq, Repr

/-- The read-only set `RO` (R29). -/
def isReadOnly (i : Index) : Bool :=
  i = 0x00 || i = 0x01 || i = 0x04 || i = 0x07 || i = 0x0D || i = 0x12 || i = 0x13 || i = 0x14 || i = 0x15

/-- The write dispatch table, keyed by index (R115). -/
def writeClass (i : Index) : WriteClass :=
  if isReadOnly i then .readOnly
  else if i = 0x0A then .verbatimWithMirror
  else if i = 0x03 then .maskedWithResetTrigger
  else if i = 0x0F then .maskedWithFanRecompute
  else if i = 0x11 then .masked
  else .verbatim

/-- The bits a write to index `i` stores (R115); read-only indices store none. -/
def writeMask (i : Index) : Slot :=
  if isReadOnly i then 0x0000
  else if i = 0x03 then 0x00FC
  else if i = 0x0F then 0x00F8
  else if i = 0x11 then 0x007F
  else 0xFFFF

/-- `applied` is false exactly for the read-only class (R116). -/
def WriteClass.applied : WriteClass → Bool
  | .readOnly => false
  | .verbatimWithMirror => true
  | .maskedWithResetTrigger => true
  | .maskedWithFanRecompute => true
  | .masked => true
  | .verbatim => true

end Sys2Proof.Machine
end

