-- ==== Sys2Proof/Machine/Convert.lean ====
section
/-! DEFINITION. The unit-conversion library (40_conversion.md): pure functions over unbounded integers, every narrowing
written out (R90, R98). -/

namespace Sys2Proof.Machine

/-- `clamp(x, lo, hi)` (R10). -/
def clamp (x lo hi : Nat) : Nat := if x < lo then lo else if x > hi then hi else x

/-- `rpm_to_reg(rpm, d)`: the fan count of a speed under divisor `d` (R91). -/
def rpmToReg (rpm d : Nat) : Nat := if rpm = 0 then 0 else clamp (480000 / (rpm * d)) 1 255

/-- `fan_div(n) = 2^n` (R92). -/
def fanDiv (n : Nat) : Nat := 2 ^ n

/-- `temp_to_reg(t) = (t + 119) & 0xFF`, the mask of a negative number being `mod 256` (R93, R10). -/
def tempToReg (t : Int) : Nat := ((t + 119) % 256).toNat

/-- `voltage_to_reg(v) = (v div 19) & 0xFF` (R94). -/
def voltageToReg (v : Nat) : Nat := v / 19 % 256

/-- `vdd_to_reg(v) = ((v * 4) div 95) & 0xFF` (R95). -/
def vddToReg (v : Nat) : Nat := v * 4 / 95 % 256

/-- `cal(x) = x + 13`, not truncated to 8 bits (R96). -/
def cal (x : Nat) : Nat := x + 13

/-- `fan_pack(f0, d0, f1, d1)`: fan 0 in the high byte, fan 1 in the low byte (R97). -/
def fanPack (f0 d0 f1 d1 : Nat) : Nat := (rpmToReg f0 d0 <<< 8) ||| rpmToReg f1 d1

/-- The divisor of both fans at reset (R90, R210). -/
def resetDivisor : Nat := 8

/-- The fixed nominal 5.00 V rail, in millivolts (R90, R95). -/
def nominalVdd : Nat := 5000

end Sys2Proof.Machine
end

