-- ==== Sys2Proof/Machine/Operands.lean ====
section
/-! DEFINITION. Operand forms: register numbers, widths, the halves of a slot, and reading and writing one slot of the
register array. Everything here is a plain function of bits. -/

namespace Sys2Proof.Machine

/-- `idx(n) = n & 0x1F`: the slot a register number names; numbers are "masked, never rejected" (R22, R74, R110). -/
def idx (n : Byte) : Index := n.extractLsb' 0 5

/-- Bits 7:5 of a register number, which choose among the aliases of one slot (R78). -/
def bank (n : Byte) : Bank := n.extractLsb' 5 3

/-- The command byte with alias bits `c` and index `i` (R78). -/
def regNum (c : Bank) (i : Index) : Byte := c ++ i

/-- `zext_16(v)`: the value a byte write passes on (R10, R75). -/
def zext16 (v : Byte) : Slot := v.setWidth 16

/-- Bits 7:0, the low byte of a slot value (R9). -/
def lowByte (x : Slot) : Byte := x.extractLsb' 0 8

/-- Bits 15:8, the high byte of a slot value (R9). -/
def highByte (x : Slot) : Byte := x.extractLsb' 8 8

/-- `trunc_16(v)`: how a natural number is stored in a slot, `R[i] <- v` (R10, R11). -/
def toSlot (v : Nat) : Slot := BitVec.ofNat 16 v

/-- `R[i]` (R11). -/
def readSlot (r : Slots) (i : Index) : Slot := r[i.toNat]'i.isLt

/-- `R[i] <- v` (R11). -/
def writeSlot (r : Slots) (i : Index) (v : Slot) : Slots := r.set i.toNat v i.isLt

/-- The two-byte set `TWO`, whose slots are read raw (R30, R111). -/
def isTwoByte (i : Index) : Bool :=
  i = 0x07 || i = 0x08 || i = 0x09 || i = 0x0A || i = 0x0B || i = 0x0C

/-- `shape(i, x)`: outside the two-byte set a read returns the low byte in both halves (R113). -/
def shape (i : Index) (x : Slot) : Slot :=
  if isTwoByte i then x else (x &&& (0xFF : Slot)) ||| ((x &&& (0xFF : Slot)) <<< 8)

/-- Fan 0's divisor exponent, bits 7:6 of slot 0x0F (R34). -/
def fan0Exponent (x : Slot) : Nat := (x.extractLsb' 6 2).toNat

/-- Fan 1's divisor exponent, bits 5:4 of slot 0x0F (R34). -/
def fan1Exponent (x : Slot) : Nat := (x.extractLsb' 4 2).toNat

/-- The reset trigger: bit 7 of the incoming value (R31, R119). -/
def resetBit (v : Slot) : Bool := v.getLsbD 7

end Sys2Proof.Machine
end

