-- ==== Sys2Proof/Config.lean ====
section
/-! DEFINITION. What an implementation fixes: the parameters of 00_scope.md section 4, their defaults, the OPEN one
without a value, and which of the two variants the model resets as. -/

namespace Sys2Proof

/-- The parameters of R8 that the block itself uses, taken as an argument of the model: every state carries them.
`P_CREATE_FAILS` is an operand of the create event (log 6); `P_SHARED_ADDRESS` concerns several chips on one bus and is
answered in Machine/Platform.lean (log 13). -/
structure Params where
  /-- `P_CHIP_ID`, slot 0x00 (D6). -/
  chipId : Slot
  /-- `P_REVISION`, slot 0x01 (D6). -/
  revision : Slot
  /-- `P_TEMP_LIMIT`, slot 0x05 (D7). -/
  tempLimit : Slot
  /-- `P_TEMP_HYST`, slot 0x06 (D7). -/
  tempHyst : Slot
  /-- `P_FAN_LIMIT`, slot 0x08 (D8). -/
  fanLimit : Slot
  /-- `P_VOLT_LIMIT`, slots 0x09 to 0x0C (D9). -/
  voltLimit : Slot
  /-- `P_FANDIV_RESET`, slot 0x0F; constrained by D10, see `Params.WellFormed`. -/
  fandivReset : Slot
  /-- `P_VCORE`, the seed of voltage rail 0 in millivolts (D14). -/
  vcore : Nat
  /-- `P_SEED_V1`, the seed of voltage rail 1 in millivolts (D14). -/
  seedV1 : Nat
  deriving DecidableEq, Repr

/-- `P_VCORE` is OPEN (D14, I12): a natural from 0 to 65535 and nothing more is known of it. Safe: no proof can see its
value (log 2). -/
opaque Config.vcore : Fin 65536

/-- The spec's defaults of R8, `P_VCORE` left open. PRESUMED: every hexadecimal value here is the spec's "from general
knowledge, not in source" (G3 to G7). Unsafe for a claim that uses one without saying so (log 1). -/
def Config.params : Params where
  chipId := 0x0080
  revision := 0x0080
  tempLimit := 0x00C7
  tempHyst := 0x00C2
  fanLimit := 0x6464
  voltLimit := 0xDAC5
  fandivReset := 0x00F8
  vcore := Config.vcore.val
  seedV1 := 2862

/-- The two device variants (R3, R170). -/
inductive Variant where
  /-- `GL518SM@2C`. -/
  | at2C
  /-- `GL518SM@2D`. -/
  | at2D
  deriving DecidableEq, Repr

/-- The default bus address of a variant, all that the two differ in (R3, R170). -/
def Variant.address : Variant → Byte
  | .at2C => 0x2C
  | .at2D => 0x2D

/-- The address of the variant the model resets as. DESIGN CHOICE of the two; safe where a claim does not name the address
(log 4). -/
def Config.defaultAddress : Byte := Variant.at2C.address

/-- The "no address" sentinel that create starts from and destroy remaps to (D16, D20). -/
def Config.unboundAddress : Byte := 0x80

end Sys2Proof
end

