-- ==== Sys2Proof/Machine/Sensors.lean ====
section
/-! DEFINITION. The sensor-value source at its interface: the six readings, their seed, and a change of one. -/

namespace Sys2Proof.Machine

/-- The readings the block consults, as the host holds them at one moment (R33). Naturals in revolutions per minute and
millivolts, an integer in degrees Celsius; the domains of D13 are `Sensors.WellFormed`. -/
structure Sensors where
  fan0 : Nat
  fan1 : Nat
  temp0 : Int
  volt0 : Nat
  volt1 : Nat
  volt2 : Nat
  deriving DecidableEq, Repr

/-- One reading and its new value, the operands of `sensor_update(k, x)` (R171). -/
inductive Reading where
  | fan0 (rpm : Nat)
  | fan1 (rpm : Nat)
  | temp0 (celsius : Int)
  | volt0 (millivolts : Nat)
  | volt1 (millivolts : Nat)
  | volt2 (millivolts : Nat)
  deriving DecidableEq, Repr

/-- The source after one reading changed (R171). -/
def Sensors.update (S : Sensors) : Reading → Sensors
  | .fan0 x => { S with fan0 := x }
  | .fan1 x => { S with fan1 := x }
  | .temp0 x => { S with temp0 := x }
  | .volt0 x => { S with volt0 := x }
  | .volt1 x => { S with volt1 := x }
  | .volt2 x => { S with volt2 := x }

/-- The source after one `SENSOR k=v, ...` line, first reading first (R83, R171). -/
def Sensors.updateAll (S : Sensors) (rs : List Reading) : Sensors := rs.foldl Sensors.update S

/-- The one-time seed at create: the source's end-to-end scenario, rails 0 and 1 from the parameters (R166, D14). -/
def Sensors.seed (p : Params) : Sensors where
  fan0 := 3000
  fan1 := 3000
  temp0 := 30
  volt0 := p.vcore
  volt1 := p.seedV1
  volt2 := 3300

/-- The largest fan speed or rail voltage of the domains of D13. -/
def readingMax : Nat := 65535

end Sys2Proof.Machine
end

