-- ==== Sys2Proof/Machine/ResetPolicy.lean ====
section
/-! DEFINITION. The slot values that the reset policy `Reset(S)` leaves (70_reset_and_hazards.md R210). -/

namespace Sys2Proof.Machine

/-- Every slot after `Reset(S)`, index 0x00 first: the slots R210 names, and 0 in every other one. The voltage sums are
stored in 16 bits without truncation to 8 (R96), and both fans use divisor 8 whatever slot 0x0F holds. -/
def resetSlots (p : Params) (S : Sensors) : Slots := #v[
  p.chipId,                                                         -- 0x00
  p.revision,                                                       -- 0x01
  0,                                                                -- 0x02
  0,                                                                -- 0x03
  toSlot (tempToReg S.temp0),                                       -- 0x04
  p.tempLimit,                                                      -- 0x05
  p.tempHyst,                                                       -- 0x06
  toSlot (fanPack S.fan0 resetDivisor S.fan1 resetDivisor),         -- 0x07
  p.fanLimit,                                                       -- 0x08
  p.voltLimit,                                                      -- 0x09
  p.voltLimit,                                                      -- 0x0A
  p.voltLimit,                                                      -- 0x0B
  p.voltLimit,                                                      -- 0x0C
  toSlot (cal (voltageToReg S.volt2)),                              -- 0x0D
  0,                                                                -- 0x0E
  p.fandivReset,                                                    -- 0x0F
  0,                                                                -- 0x10
  0,                                                                -- 0x11
  0,                                                                -- 0x12
  toSlot (cal (voltageToReg S.volt1)),                              -- 0x13
  toSlot (cal (voltageToReg S.volt0)),                              -- 0x14
  toSlot (cal (vddToReg nominalVdd)),                               -- 0x15
  0, 0, 0, 0, 0, 0, 0, 0, 0, 0]                                     -- 0x16 to 0x1F

/-- The zeroed register array a create starts from (R165, R210). -/
def zeroSlots : Slots := Vector.replicate 32 0

end Sys2Proof.Machine
end

