-- ==== Sys2Proof/Machine/State.lean ====
section
/-! DEFINITION. The state of the machine as plain data: the components of R20, the sensor-value source and the parameters
they are computed from, the host's pending events, the last outcome, and two ghost fields; and the state after reset. -/

namespace Sys2Proof.Machine

/-- The adapter phase (R25, R150). No output depends on it. -/
inductive Phase where
  | noPendingSelection
  | selectionPending
  deriving DecidableEq, Repr

/-- The lifecycle status (R26). `absent` is the model's own: no create has succeeded yet (DESIGN CHOICE, log 10). -/
inductive Life where
  | absent
  | live
  | destroyed
  deriving DecidableEq, Repr

/-- The operations only the host can call; none has a descriptor (R82, R172). -/
inductive HostOp where
  /-- `create(config)`; `fails` is the draw `P_CREATE_FAILS` of this create (R165, R169, D21; log 6). DESIGN CHOICE: `config`
  is 8 bits wide, since R165 masks it to 7 and gives it no width; safe (log 16). -/
  | create (config : Byte) (fails : Bool)
  /-- `destroy()` (R168). -/
  | destroy
  /-- `remap(a)` (R147). -/
  | remap (a : Byte)
  /-- `sensor_update`, for the readings of one `SENSOR` line (R171, R83). -/
  | sensor (readings : List Reading)
  deriving DecidableEq, Repr

/-- What the host can do to the block, one at a time (R172, R190). -/
inductive Event where
  /-- Deliver the transaction `(A, d)` (R70, R140). -/
  | transact (A : BusAddress) (d : Descriptor)
  /-- Call a host operation. -/
  | host (op : HostOp)
  deriving DecidableEq, Repr

/-- The outcome of the last step that reaches the host or the bus. `NotApplied` is internal and held in no state (R28, R125),
and the two refusals end the run and are `Refusal`s (R81); all six outcomes of R187 with their codes are `StepOutcome`, in
Machine/Outcome.lean. -/
inductive Result where
  /-- Code 0, a write or a host operation: nothing is returned. -/
  | done
  /-- Code 0, a byte read: the 8-bit result (R76). -/
  | readByte (r : Byte)
  /-- Code 0, a word read: the 16-bit result (R76). -/
  | readWord (r : Slot)
  /-- Code 2: no transaction of this chip; the address sent to. -/
  | notDelivered (A : BusAddress)
  /-- Code 5: create under resource exhaustion. -/
  | createFailed
  deriving DecidableEq, Repr

/-- The whole state. `regs`, `sel`, `bus`, `phase` and `life` are the components of R20. -/
structure State where
  /-- `R[0..31]` (R21). -/
  regs : Slots
  /-- The selected-register pointer (R23). -/
  sel : Byte
  /-- The bus address; bound exactly when below 0x80 (R24). -/
  bus : Byte
  /-- The adapter phase (R25). -/
  phase : Phase
  /-- The lifecycle status (R26). -/
  life : Life
  /-- The sensor-value source as the host holds it now (R33; log 8). -/
  sensors : Sensors
  /-- The parameters of R8; no step changes them (log 1). -/
  params : Params
  /-- Ghost: the readings the last `Reset` read, the hidden staleness of R40 (log 11). -/
  snapshot : Sensors
  /-- Ghost: the readings of fan 0 and fan 1 that the last `Reset` or 0x0F write read (R40, R41; log 11). -/
  fanSnapshot : Nat × Nat
  /-- What the host has still to do, oldest first (R62, R172; log 5). -/
  pending : List Event
  /-- The outcome of the last step (R14, R187; log 12). -/
  last : Result
  deriving DecidableEq, Repr

/-- No fault exists: "The block raises no exception, trap or fault" (R185). Nothing raises one; safe. -/
inductive Fault where
  deriving DecidableEq, Repr

/-- Why a step has no next state. -/
inductive Refusal where
  /-- The dispatcher, for an instruction that has no meaning yet (none is left so). Safe: the run stops. -/
  | notModelled (mnemonic : String)
  /-- Delivery, code 3 `RefusedShape`: `(D, C, W)` is `(0, 0, 1)` or `(1, 0, 1)`; the transaction does not exist (R81, D19).
  Safe: the hardware never receives it. -/
  | noSuchShape (d : Descriptor)
  /-- Delivery, code 4 `RefusedNonCanonical`: a field that must be zero is not (R79, R81, D19). Safe: the hardware never
  receives it. -/
  | nonCanonical (d : Descriptor)
  /-- Remap or destroy while no chip is live (R26, I21; log 10). Safe: the host never does it. -/
  | notLive
  /-- Create while this chip is live: that would be a second chip, which Machine/Platform.lean models (log 10, log 13).
  Safe: the run stops. -/
  | alreadyLive
  /-- Sensor update to a value outside the domains of D13 (I17, I25; log 7), or create with a source that holds one (R215,
  I25; log 7). Safe: the host never does it. -/
  | sensorOutOfDomain
  /-- Create under parameters outside their constraints (D10, I11, I12; log 9). Safe: there is no such chip. -/
  | badParams
  deriving DecidableEq, Repr

/-- The machine right after reset: the state a successful create of the default variant leaves (R201, R211, R214), every
slot at its reset value computed from the seed (R166), with no event pending. -/
def State.reset : State where
  regs := resetSlots Config.params (Sensors.seed Config.params)
  sel := 0x00
  bus := Config.defaultAddress
  phase := .noPendingSelection
  life := .live
  sensors := Sensors.seed Config.params
  params := Config.params
  snapshot := Sensors.seed Config.params
  fanSnapshot := ((Sensors.seed Config.params).fan0, (Sensors.seed Config.params).fan1)
  pending := []
  last := .done

end Sys2Proof.Machine
end

