-- ==== Sys2Proof/Machine/Ops.lean ====
section
/-! DEFINITION. The named operations over the register file: reset, fan recompute, `ReadReg` and `WriteReg`. -/

namespace Sys2Proof.Machine

/-- `R[i] <- v` on the whole state (R11). -/
def State.setReg (s : State) (i : Index) (v : Slot) : State := { s with regs := writeSlot s.regs i v }

/-- `Reset(S)` with the readings the source holds at this step: all 32 slots and nothing else of the machine (R210,
R212, R213). It writes the slots directly and triggers no write side effect (R194). The ghost fields note what it read. -/
def State.applyReset (s : State) : State :=
  { s with
    regs := resetSlots s.params s.sensors
    snapshot := s.sensors
    fanSnapshot := (s.sensors.fan0, s.sensors.fan1) }

/-- The value a fan recompute stores in slot 0x07: both fans under the divisors that `x`, the content of slot 0x0F,
decodes to (R92, R97, R120). -/
def fanSlot (x : Slot) (f0 f1 : Nat) : Slot :=
  toSlot (fanPack f0 (fanDiv (fan0Exponent x)) f1 (fanDiv (fan1Exponent x)))

/-- The fan recompute: `R[0x07]` from the stored divisor bits and the readings of this step (R120). -/
def State.recomputeFans (s : State) : State :=
  { s.setReg 0x07 (fanSlot (readSlot s.regs 0x0F) s.sensors.fan0 s.sensors.fan1) with
    fanSnapshot := (s.sensors.fan0, s.sensors.fan1) }

/-- `ReadReg(n)` (R112). It writes no state (R114). -/
def readReg (n : Byte) (s : State) : Slot := shape (idx n) (readSlot s.regs (idx n))

/-- The state a write of `v` to index `i` leaves, by its write class (R117 to R122); the effects of one write in the
order of its rule (R192, D28). -/
def storeReg (i : Index) (v : Slot) (s : State) : State :=
  match writeClass i with
  | .readOnly => s
  | .verbatimWithMirror => (s.setReg 0x13 (v &&& 0xFF)).setReg i v
  | .maskedWithResetTrigger =>
    let stored := s.setReg i (v &&& writeMask i)
    if resetBit v then stored.applyReset else stored
  | .maskedWithFanRecompute => (s.setReg i (v &&& writeMask i)).recomputeFans
  | .masked => s.setReg i (v &&& writeMask i)
  | .verbatim => s.setReg i v

/-- `WriteReg(n, v) -> applied` (R116), with the state it leaves. -/
def writeReg (n : Byte) (v : Slot) (s : State) : Bool × State :=
  ((writeClass (idx n)).applied, storeReg (idx n) v s)

end Sys2Proof.Machine
end

