-- ==== Sys2Proof/Machine/Adapter.lean ====
section
/-! DEFINITION. The bus protocol adapter (42_bus_adapter.md): the six transaction handlers, the delivery test, and remap.
Each handler runs to completion (R151), never reports an error to the transport (R152), and leaves its result in `last`. -/

namespace Sys2Proof.Machine

/-- `RDB`: bits 7:0 of a read of the register `sel` names; the phase is kept (R141). -/
def handleReadSelected (s : State) : Host.Outcome State Fault Refusal :=
  .next { s with last := .readByte (lowByte (readReg s.sel s)) }

/-- `RDBC n`: bits 7:0 of a read of register `n` (R142). -/
def handleReadByte (n : Byte) (s : State) : Host.Outcome State Fault Refusal :=
  .next { s with phase := .noPendingSelection, last := .readByte (lowByte (readReg n s)) }

/-- `RDWC n`: the 16 bits of a read of register `n` (R143). -/
def handleReadWord (n : Byte) (s : State) : Host.Outcome State Fault Refusal :=
  .next { s with phase := .noPendingSelection, last := .readWord (readReg n s) }

/-- `WRS v`: `sel` takes all 8 bits; no slot is touched (R144). -/
def handleSelect (v : Byte) (s : State) : Host.Outcome State Fault Refusal :=
  .next { s with sel := v, phase := .selectionPending, last := .done }

/-- `WRWC n, v`: `WriteReg(n, v)`, its `applied` result discarded (R146, R125). -/
def handleWriteWord (n : Byte) (v : Slot) (s : State) : Host.Outcome State Fault Refusal :=
  .next { (writeReg n v s).2 with phase := .noPendingSelection, last := .done }

/-- `WRBC n, v`: `WriteReg(n, zext_16(v))`, its `applied` result discarded (R145, R125). -/
def handleWriteByte (n : Byte) (v : Byte) (s : State) : Host.Outcome State Fault Refusal :=
  .next { (writeReg n (zext16 v) s).2 with phase := .noPendingSelection, last := .done }

/-- The chip is bound to a bus address (R24). -/
def State.bound (s : State) : Bool := s.bus < 0x80

/-- A transaction sent to `A` reaches this chip (R140). -/
def State.answers (s : State) (A : BusAddress) : Bool :=
  s.life = .live && s.bound && A.setWidth 8 = s.bus

/-- `remap(a)` on a chip (R147): the handlers are registered at `bus` exactly when it is below 0x80, so unregistering
at the old address and registering at the new one is this one assignment. DEDUCED from R140 and R147; safe (log 15). -/
def State.remapTo (s : State) (a : Byte) : State := { s with bus := a }

end Sys2Proof.Machine
end

