-- ==== Sys2Proof/Machine/ReadByte.lean ====
section
/-! DEFINITION. The byte reads with a command byte, `RDBC.ii` (R142). One meaning for each row of the opcode table, all over the one handler `handleReadByte`. -/

namespace Sys2Proof.Machine

/-- `RDBC.00`: bits 7:0 of a read of index 0x00, which is the low byte in both halves (R142, R113). -/
def execRdbc00 (c : Bank) (s : State) : Host.Outcome State Fault Refusal :=
  handleReadByte (regNum c 0x00) s

/-- `RDBC.01`: bits 7:0 of a read of index 0x01, which is the low byte in both halves (R142, R113). -/
def execRdbc01 (c : Bank) (s : State) : Host.Outcome State Fault Refusal :=
  handleReadByte (regNum c 0x01) s

/-- `RDBC.02`: bits 7:0 of a read of index 0x02, which is the low byte in both halves (R142, R113). -/
def execRdbc02 (c : Bank) (s : State) : Host.Outcome State Fault Refusal :=
  handleReadByte (regNum c 0x02) s

/-- `RDBC.03`: bits 7:0 of a read of index 0x03, which is the low byte in both halves (R142, R113). -/
def execRdbc03 (c : Bank) (s : State) : Host.Outcome State Fault Refusal :=
  handleReadByte (regNum c 0x03) s

/-- `RDBC.04`: bits 7:0 of a read of index 0x04, which is the low byte in both halves (R142, R113). -/
def execRdbc04 (c : Bank) (s : State) : Host.Outcome State Fault Refusal :=
  handleReadByte (regNum c 0x04) s

/-- `RDBC.05`: bits 7:0 of a read of index 0x05, which is the low byte in both halves (R142, R113). -/
def execRdbc05 (c : Bank) (s : State) : Host.Outcome State Fault Refusal :=
  handleReadByte (regNum c 0x05) s

/-- `RDBC.06`: bits 7:0 of a read of index 0x06, which is the low byte in both halves (R142, R113). -/
def execRdbc06 (c : Bank) (s : State) : Host.Outcome State Fault Refusal :=
  handleReadByte (regNum c 0x06) s

/-- `RDBC.07`: bits 7:0 of a read of index 0x07, which is the stored 16 bits (R142, R113). -/
def execRdbc07 (c : Bank) (s : State) : Host.Outcome State Fault Refusal :=
  handleReadByte (regNum c 0x07) s

/-- `RDBC.08`: bits 7:0 of a read of index 0x08, which is the stored 16 bits (R142, R113). -/
def execRdbc08 (c : Bank) (s : State) : Host.Outcome State Fault Refusal :=
  handleReadByte (regNum c 0x08) s

/-- `RDBC.09`: bits 7:0 of a read of index 0x09, which is the stored 16 bits (R142, R113). -/
def execRdbc09 (c : Bank) (s : State) : Host.Outcome State Fault Refusal :=
  handleReadByte (regNum c 0x09) s

/-- `RDBC.0A`: bits 7:0 of a read of index 0x0A, which is the stored 16 bits (R142, R113). -/
def execRdbc0A (c : Bank) (s : State) : Host.Outcome State Fault Refusal :=
  handleReadByte (regNum c 0x0A) s

/-- `RDBC.0B`: bits 7:0 of a read of index 0x0B, which is the stored 16 bits (R142, R113). -/
def execRdbc0B (c : Bank) (s : State) : Host.Outcome State Fault Refusal :=
  handleReadByte (regNum c 0x0B) s

/-- `RDBC.0C`: bits 7:0 of a read of index 0x0C, which is the stored 16 bits (R142, R113). -/
def execRdbc0C (c : Bank) (s : State) : Host.Outcome State Fault Refusal :=
  handleReadByte (regNum c 0x0C) s

/-- `RDBC.0D`: bits 7:0 of a read of index 0x0D, which is the low byte in both halves (R142, R113). -/
def execRdbc0D (c : Bank) (s : State) : Host.Outcome State Fault Refusal :=
  handleReadByte (regNum c 0x0D) s

/-- `RDBC.0E`: bits 7:0 of a read of index 0x0E, which is the low byte in both halves (R142, R113). -/
def execRdbc0E (c : Bank) (s : State) : Host.Outcome State Fault Refusal :=
  handleReadByte (regNum c 0x0E) s

/-- `RDBC.0F`: bits 7:0 of a read of index 0x0F, which is the low byte in both halves (R142, R113). -/
def execRdbc0F (c : Bank) (s : State) : Host.Outcome State Fault Refusal :=
  handleReadByte (regNum c 0x0F) s

/-- `RDBC.10`: bits 7:0 of a read of index 0x10, which is the low byte in both halves (R142, R113). -/
def execRdbc10 (c : Bank) (s : State) : Host.Outcome State Fault Refusal :=
  handleReadByte (regNum c 0x10) s

/-- `RDBC.11`: bits 7:0 of a read of index 0x11, which is the low byte in both halves (R142, R113). -/
def execRdbc11 (c : Bank) (s : State) : Host.Outcome State Fault Refusal :=
  handleReadByte (regNum c 0x11) s

/-- `RDBC.12`: bits 7:0 of a read of index 0x12, which is the low byte in both halves (R142, R113). -/
def execRdbc12 (c : Bank) (s : State) : Host.Outcome State Fault Refusal :=
  handleReadByte (regNum c 0x12) s

/-- `RDBC.13`: bits 7:0 of a read of index 0x13, which is the low byte in both halves (R142, R113). -/
def execRdbc13 (c : Bank) (s : State) : Host.Outcome State Fault Refusal :=
  handleReadByte (regNum c 0x13) s

/-- `RDBC.14`: bits 7:0 of a read of index 0x14, which is the low byte in both halves (R142, R113). -/
def execRdbc14 (c : Bank) (s : State) : Host.Outcome State Fault Refusal :=
  handleReadByte (regNum c 0x14) s

/-- `RDBC.15`: bits 7:0 of a read of index 0x15, which is the low byte in both halves (R142, R113). -/
def execRdbc15 (c : Bank) (s : State) : Host.Outcome State Fault Refusal :=
  handleReadByte (regNum c 0x15) s

/-- `RDBC.16`: bits 7:0 of a read of index 0x16, which is the low byte in both halves (R142, R113). -/
def execRdbc16 (c : Bank) (s : State) : Host.Outcome State Fault Refusal :=
  handleReadByte (regNum c 0x16) s

/-- `RDBC.17`: bits 7:0 of a read of index 0x17, which is the low byte in both halves (R142, R113). -/
def execRdbc17 (c : Bank) (s : State) : Host.Outcome State Fault Refusal :=
  handleReadByte (regNum c 0x17) s

/-- `RDBC.18`: bits 7:0 of a read of index 0x18, which is the low byte in both halves (R142, R113). -/
def execRdbc18 (c : Bank) (s : State) : Host.Outcome State Fault Refusal :=
  handleReadByte (regNum c 0x18) s

/-- `RDBC.19`: bits 7:0 of a read of index 0x19, which is the low byte in both halves (R142, R113). -/
def execRdbc19 (c : Bank) (s : State) : Host.Outcome State Fault Refusal :=
  handleReadByte (regNum c 0x19) s

/-- `RDBC.1A`: bits 7:0 of a read of index 0x1A, which is the low byte in both halves (R142, R113). -/
def execRdbc1A (c : Bank) (s : State) : Host.Outcome State Fault Refusal :=
  handleReadByte (regNum c 0x1A) s

/-- `RDBC.1B`: bits 7:0 of a read of index 0x1B, which is the low byte in both halves (R142, R113). -/
def execRdbc1B (c : Bank) (s : State) : Host.Outcome State Fault Refusal :=
  handleReadByte (regNum c 0x1B) s

/-- `RDBC.1C`: bits 7:0 of a read of index 0x1C, which is the low byte in both halves (R142, R113). -/
def execRdbc1C (c : Bank) (s : State) : Host.Outcome State Fault Refusal :=
  handleReadByte (regNum c 0x1C) s

/-- `RDBC.1D`: bits 7:0 of a read of index 0x1D, which is the low byte in both halves (R142, R113). -/
def execRdbc1D (c : Bank) (s : State) : Host.Outcome State Fault Refusal :=
  handleReadByte (regNum c 0x1D) s

/-- `RDBC.1E`: bits 7:0 of a read of index 0x1E, which is the low byte in both halves (R142, R113). -/
def execRdbc1E (c : Bank) (s : State) : Host.Outcome State Fault Refusal :=
  handleReadByte (regNum c 0x1E) s

/-- `RDBC.1F`: bits 7:0 of a read of index 0x1F, which is the low byte in both halves (R142, R113). -/
def execRdbc1F (c : Bank) (s : State) : Host.Outcome State Fault Refusal :=
  handleReadByte (regNum c 0x1F) s

end Sys2Proof.Machine
end

