-- ==== Sys2Proof/Machine/ReadWord.lean ====
section
/-! DEFINITION. The word reads with a command byte, `RDWC.ii` (R143). One meaning for each row of the opcode table, all over the one handler `handleReadWord`. -/

namespace Sys2Proof.Machine

/-- `RDWC.00`: a read of index 0x00, the low byte in both halves (R143, R113). -/
def execRdwc00 (c : Bank) (s : State) : Host.Outcome State Fault Refusal :=
  handleReadWord (regNum c 0x00) s

/-- `RDWC.01`: a read of index 0x01, the low byte in both halves (R143, R113). -/
def execRdwc01 (c : Bank) (s : State) : Host.Outcome State Fault Refusal :=
  handleReadWord (regNum c 0x01) s

/-- `RDWC.02`: a read of index 0x02, the low byte in both halves (R143, R113). -/
def execRdwc02 (c : Bank) (s : State) : Host.Outcome State Fault Refusal :=
  handleReadWord (regNum c 0x02) s

/-- `RDWC.03`: a read of index 0x03, the low byte in both halves (R143, R113). -/
def execRdwc03 (c : Bank) (s : State) : Host.Outcome State Fault Refusal :=
  handleReadWord (regNum c 0x03) s

/-- `RDWC.04`: a read of index 0x04, the low byte in both halves (R143, R113). -/
def execRdwc04 (c : Bank) (s : State) : Host.Outcome State Fault Refusal :=
  handleReadWord (regNum c 0x04) s

/-- `RDWC.05`: a read of index 0x05, the low byte in both halves (R143, R113). -/
def execRdwc05 (c : Bank) (s : State) : Host.Outcome State Fault Refusal :=
  handleReadWord (regNum c 0x05) s

/-- `RDWC.06`: a read of index 0x06, the low byte in both halves (R143, R113). -/
def execRdwc06 (c : Bank) (s : State) : Host.Outcome State Fault Refusal :=
  handleReadWord (regNum c 0x06) s

/-- `RDWC.07`: a read of index 0x07, the stored 16 bits (R143, R113). -/
def execRdwc07 (c : Bank) (s : State) : Host.Outcome State Fault Refusal :=
  handleReadWord (regNum c 0x07) s

/-- `RDWC.08`: a read of index 0x08, the stored 16 bits (R143, R113). -/
def execRdwc08 (c : Bank) (s : State) : Host.Outcome State Fault Refusal :=
  handleReadWord (regNum c 0x08) s

/-- `RDWC.09`: a read of index 0x09, the stored 16 bits (R143, R113). -/
def execRdwc09 (c : Bank) (s : State) : Host.Outcome State Fault Refusal :=
  handleReadWord (regNum c 0x09) s

/-- `RDWC.0A`: a read of index 0x0A, the stored 16 bits (R143, R113). -/
def execRdwc0A (c : Bank) (s : State) : Host.Outcome State Fault Refusal :=
  handleReadWord (regNum c 0x0A) s

/-- `RDWC.0B`: a read of index 0x0B, the stored 16 bits (R143, R113). -/
def execRdwc0B (c : Bank) (s : State) : Host.Outcome State Fault Refusal :=
  handleReadWord (regNum c 0x0B) s

/-- `RDWC.0C`: a read of index 0x0C, the stored 16 bits (R143, R113). -/
def execRdwc0C (c : Bank) (s : State) : Host.Outcome State Fault Refusal :=
  handleReadWord (regNum c 0x0C) s

/-- `RDWC.0D`: a read of index 0x0D, the low byte in both halves (R143, R113). -/
def execRdwc0D (c : Bank) (s : State) : Host.Outcome State Fault Refusal :=
  handleReadWord (regNum c 0x0D) s

/-- `RDWC.0E`: a read of index 0x0E, the low byte in both halves (R143, R113). -/
def execRdwc0E (c : Bank) (s : State) : Host.Outcome State Fault Refusal :=
  handleReadWord (regNum c 0x0E) s

/-- `RDWC.0F`: a read of index 0x0F, the low byte in both halves (R143, R113). -/
def execRdwc0F (c : Bank) (s : State) : Host.Outcome State Fault Refusal :=
  handleReadWord (regNum c 0x0F) s

/-- `RDWC.10`: a read of index 0x10, the low byte in both halves (R143, R113). -/
def execRdwc10 (c : Bank) (s : State) : Host.Outcome State Fault Refusal :=
  handleReadWord (regNum c 0x10) s

/-- `RDWC.11`: a read of index 0x11, the low byte in both halves (R143, R113). -/
def execRdwc11 (c : Bank) (s : State) : Host.Outcome State Fault Refusal :=
  handleReadWord (regNum c 0x11) s

/-- `RDWC.12`: a read of index 0x12, the low byte in both halves (R143, R113). -/
def execRdwc12 (c : Bank) (s : State) : Host.Outcome State Fault Refusal :=
  handleReadWord (regNum c 0x12) s

/-- `RDWC.13`: a read of index 0x13, the low byte in both halves (R143, R113). -/
def execRdwc13 (c : Bank) (s : State) : Host.Outcome State Fault Refusal :=
  handleReadWord (regNum c 0x13) s

/-- `RDWC.14`: a read of index 0x14, the low byte in both halves (R143, R113). -/
def execRdwc14 (c : Bank) (s : State) : Host.Outcome State Fault Refusal :=
  handleReadWord (regNum c 0x14) s

/-- `RDWC.15`: a read of index 0x15, the low byte in both halves (R143, R113). -/
def execRdwc15 (c : Bank) (s : State) : Host.Outcome State Fault Refusal :=
  handleReadWord (regNum c 0x15) s

/-- `RDWC.16`: a read of index 0x16, the low byte in both halves (R143, R113). -/
def execRdwc16 (c : Bank) (s : State) : Host.Outcome State Fault Refusal :=
  handleReadWord (regNum c 0x16) s

/-- `RDWC.17`: a read of index 0x17, the low byte in both halves (R143, R113). -/
def execRdwc17 (c : Bank) (s : State) : Host.Outcome State Fault Refusal :=
  handleReadWord (regNum c 0x17) s

/-- `RDWC.18`: a read of index 0x18, the low byte in both halves (R143, R113). -/
def execRdwc18 (c : Bank) (s : State) : Host.Outcome State Fault Refusal :=
  handleReadWord (regNum c 0x18) s

/-- `RDWC.19`: a read of index 0x19, the low byte in both halves (R143, R113). -/
def execRdwc19 (c : Bank) (s : State) : Host.Outcome State Fault Refusal :=
  handleReadWord (regNum c 0x19) s

/-- `RDWC.1A`: a read of index 0x1A, the low byte in both halves (R143, R113). -/
def execRdwc1A (c : Bank) (s : State) : Host.Outcome State Fault Refusal :=
  handleReadWord (regNum c 0x1A) s

/-- `RDWC.1B`: a read of index 0x1B, the low byte in both halves (R143, R113). -/
def execRdwc1B (c : Bank) (s : State) : Host.Outcome State Fault Refusal :=
  handleReadWord (regNum c 0x1B) s

/-- `RDWC.1C`: a read of index 0x1C, the low byte in both halves (R143, R113). -/
def execRdwc1C (c : Bank) (s : State) : Host.Outcome State Fault Refusal :=
  handleReadWord (regNum c 0x1C) s

/-- `RDWC.1D`: a read of index 0x1D, the low byte in both halves (R143, R113). -/
def execRdwc1D (c : Bank) (s : State) : Host.Outcome State Fault Refusal :=
  handleReadWord (regNum c 0x1D) s

/-- `RDWC.1E`: a read of index 0x1E, the low byte in both halves (R143, R113). -/
def execRdwc1E (c : Bank) (s : State) : Host.Outcome State Fault Refusal :=
  handleReadWord (regNum c 0x1E) s

/-- `RDWC.1F`: a read of index 0x1F, the low byte in both halves (R143, R113). -/
def execRdwc1F (c : Bank) (s : State) : Host.Outcome State Fault Refusal :=
  handleReadWord (regNum c 0x1F) s

end Sys2Proof.Machine
end

