-- ==== Sys2Proof/Machine/Select.lean ====
section
/-! DEFINITION. The two transactions without a command byte: `RDB` reads through `sel`, `WRS` sets it. -/

namespace Sys2Proof.Machine

/-- `RDB`: bits 7:0 of a read of the slot `sel` names (R141). -/
def execRdb (s : State) : Host.Outcome State Fault Refusal := handleReadSelected s

/-- `WRS v`: `sel <- v` (R144). -/
def execWrs (v : Byte) (s : State) : Host.Outcome State Fault Refusal := handleSelect v s

end Sys2Proof.Machine
end

