-- ==== Sys2Proof/Machine/WriteByte.lean ====
section
/-! DEFINITION. The byte writes with a command byte, `WRBC.ii` (R145). One meaning for each row of the opcode table, all over the one handler `handleWriteByte`. -/

namespace Sys2Proof.Machine

/-- `WRBC.00`: the zero-extended byte to index 0x00, read-only: nothing is stored (R117). -/
def execWrbc00 (c : Bank) (v : Byte) (s : State) : Host.Outcome State Fault Refusal :=
  handleWriteByte (regNum c 0x00) v s

/-- `WRBC.01`: the zero-extended byte to index 0x01, read-only: nothing is stored (R117). -/
def execWrbc01 (c : Bank) (v : Byte) (s : State) : Host.Outcome State Fault Refusal :=
  handleWriteByte (regNum c 0x01) v s

/-- `WRBC.02`: the zero-extended byte to index 0x02, verbatim (R122). -/
def execWrbc02 (c : Bank) (v : Byte) (s : State) : Host.Outcome State Fault Refusal :=
  handleWriteByte (regNum c 0x02) v s

/-- `WRBC.03`: the zero-extended byte to index 0x03, masked 0xFC, `Reset(S)` when bit 7 is written (R119). -/
def execWrbc03 (c : Bank) (v : Byte) (s : State) : Host.Outcome State Fault Refusal :=
  handleWriteByte (regNum c 0x03) v s

/-- `WRBC.04`: the zero-extended byte to index 0x04, read-only: nothing is stored (R117). -/
def execWrbc04 (c : Bank) (v : Byte) (s : State) : Host.Outcome State Fault Refusal :=
  handleWriteByte (regNum c 0x04) v s

/-- `WRBC.05`: the zero-extended byte to index 0x05, verbatim (R122). -/
def execWrbc05 (c : Bank) (v : Byte) (s : State) : Host.Outcome State Fault Refusal :=
  handleWriteByte (regNum c 0x05) v s

/-- `WRBC.06`: the zero-extended byte to index 0x06, verbatim (R122). -/
def execWrbc06 (c : Bank) (v : Byte) (s : State) : Host.Outcome State Fault Refusal :=
  handleWriteByte (regNum c 0x06) v s

/-- `WRBC.07`: the zero-extended byte to index 0x07, read-only: nothing is stored (R117). -/
def execWrbc07 (c : Bank) (v : Byte) (s : State) : Host.Outcome State Fault Refusal :=
  handleWriteByte (regNum c 0x07) v s

/-- `WRBC.08`: the zero-extended byte to index 0x08, verbatim (R122). -/
def execWrbc08 (c : Bank) (v : Byte) (s : State) : Host.Outcome State Fault Refusal :=
  handleWriteByte (regNum c 0x08) v s

/-- `WRBC.09`: the zero-extended byte to index 0x09, verbatim (R122). -/
def execWrbc09 (c : Bank) (v : Byte) (s : State) : Host.Outcome State Fault Refusal :=
  handleWriteByte (regNum c 0x09) v s

/-- `WRBC.0A`: the zero-extended byte to index 0x0A, verbatim, low byte mirrored into 0x13 (R118). -/
def execWrbc0A (c : Bank) (v : Byte) (s : State) : Host.Outcome State Fault Refusal :=
  handleWriteByte (regNum c 0x0A) v s

/-- `WRBC.0B`: the zero-extended byte to index 0x0B, verbatim (R122). -/
def execWrbc0B (c : Bank) (v : Byte) (s : State) : Host.Outcome State Fault Refusal :=
  handleWriteByte (regNum c 0x0B) v s

/-- `WRBC.0C`: the zero-extended byte to index 0x0C, verbatim (R122). -/
def execWrbc0C (c : Bank) (v : Byte) (s : State) : Host.Outcome State Fault Refusal :=
  handleWriteByte (regNum c 0x0C) v s

/-- `WRBC.0D`: the zero-extended byte to index 0x0D, read-only: nothing is stored (R117). -/
def execWrbc0D (c : Bank) (v : Byte) (s : State) : Host.Outcome State Fault Refusal :=
  handleWriteByte (regNum c 0x0D) v s

/-- `WRBC.0E`: the zero-extended byte to index 0x0E, verbatim (R122). -/
def execWrbc0E (c : Bank) (v : Byte) (s : State) : Host.Outcome State Fault Refusal :=
  handleWriteByte (regNum c 0x0E) v s

/-- `WRBC.0F`: the zero-extended byte to index 0x0F, masked 0xF8, slot 0x07 recomputed (R120). -/
def execWrbc0F (c : Bank) (v : Byte) (s : State) : Host.Outcome State Fault Refusal :=
  handleWriteByte (regNum c 0x0F) v s

/-- `WRBC.10`: the zero-extended byte to index 0x10, verbatim (R122). -/
def execWrbc10 (c : Bank) (v : Byte) (s : State) : Host.Outcome State Fault Refusal :=
  handleWriteByte (regNum c 0x10) v s

/-- `WRBC.11`: the zero-extended byte to index 0x11, masked 0x7F (R121). -/
def execWrbc11 (c : Bank) (v : Byte) (s : State) : Host.Outcome State Fault Refusal :=
  handleWriteByte (regNum c 0x11) v s

/-- `WRBC.12`: the zero-extended byte to index 0x12, read-only: nothing is stored (R117). -/
def execWrbc12 (c : Bank) (v : Byte) (s : State) : Host.Outcome State Fault Refusal :=
  handleWriteByte (regNum c 0x12) v s

/-- `WRBC.13`: the zero-extended byte to index 0x13, read-only: nothing is stored (R117). -/
def execWrbc13 (c : Bank) (v : Byte) (s : State) : Host.Outcome State Fault Refusal :=
  handleWriteByte (regNum c 0x13) v s

/-- `WRBC.14`: the zero-extended byte to index 0x14, read-only: nothing is stored (R117). -/
def execWrbc14 (c : Bank) (v : Byte) (s : State) : Host.Outcome State Fault Refusal :=
  handleWriteByte (regNum c 0x14) v s

/-- `WRBC.15`: the zero-extended byte to index 0x15, read-only: nothing is stored (R117). -/
def execWrbc15 (c : Bank) (v : Byte) (s : State) : Host.Outcome State Fault Refusal :=
  handleWriteByte (regNum c 0x15) v s

/-- `WRBC.16`: the zero-extended byte to index 0x16, verbatim (R122). -/
def execWrbc16 (c : Bank) (v : Byte) (s : State) : Host.Outcome State Fault Refusal :=
  handleWriteByte (regNum c 0x16) v s

/-- `WRBC.17`: the zero-extended byte to index 0x17, verbatim (R122). -/
def execWrbc17 (c : Bank) (v : Byte) (s : State) : Host.Outcome State Fault Refusal :=
  handleWriteByte (regNum c 0x17) v s

/-- `WRBC.18`: the zero-extended byte to index 0x18, verbatim (R122). -/
def execWrbc18 (c : Bank) (v : Byte) (s : State) : Host.Outcome State Fault Refusal :=
  handleWriteByte (regNum c 0x18) v s

/-- `WRBC.19`: the zero-extended byte to index 0x19, verbatim (R122). -/
def execWrbc19 (c : Bank) (v : Byte) (s : State) : Host.Outcome State Fault Refusal :=
  handleWriteByte (regNum c 0x19) v s

/-- `WRBC.1A`: the zero-extended byte to index 0x1A, verbatim (R122). -/
def execWrbc1A (c : Bank) (v : Byte) (s : State) : Host.Outcome State Fault Refusal :=
  handleWriteByte (regNum c 0x1A) v s

/-- `WRBC.1B`: the zero-extended byte to index 0x1B, verbatim (R122). -/
def execWrbc1B (c : Bank) (v : Byte) (s : State) : Host.Outcome State Fault Refusal :=
  handleWriteByte (regNum c 0x1B) v s

/-- `WRBC.1C`: the zero-extended byte to index 0x1C, verbatim (R122). -/
def execWrbc1C (c : Bank) (v : Byte) (s : State) : Host.Outcome State Fault Refusal :=
  handleWriteByte (regNum c 0x1C) v s

/-- `WRBC.1D`: the zero-extended byte to index 0x1D, verbatim (R122). -/
def execWrbc1D (c : Bank) (v : Byte) (s : State) : Host.Outcome State Fault Refusal :=
  handleWriteByte (regNum c 0x1D) v s

/-- `WRBC.1E`: the zero-extended byte to index 0x1E, verbatim (R122). -/
def execWrbc1E (c : Bank) (v : Byte) (s : State) : Host.Outcome State Fault Refusal :=
  handleWriteByte (regNum c 0x1E) v s

/-- `WRBC.1F`: the zero-extended byte to index 0x1F, verbatim (R122). -/
def execWrbc1F (c : Bank) (v : Byte) (s : State) : Host.Outcome State Fault Refusal :=
  handleWriteByte (regNum c 0x1F) v s

end Sys2Proof.Machine
end

