-- ==== Sys2Proof/Machine/WriteWord.lean ====
section
/-! DEFINITION. The word writes with a command byte, `WRWC.ii` (R146). One meaning for each row of the opcode table, all over the one handler `handleWriteWord`. -/

namespace Sys2Proof.Machine

/-- `WRWC.00`: the word to index 0x00, read-only: nothing is stored (R117). -/
def execWrwc00 (c : Bank) (v : Slot) (s : State) : Host.Outcome State Fault Refusal :=
  handleWriteWord (regNum c 0x00) v s

/-- `WRWC.01`: the word to index 0x01, read-only: nothing is stored (R117). -/
def execWrwc01 (c : Bank) (v : Slot) (s : State) : Host.Outcome State Fault Refusal :=
  handleWriteWord (regNum c 0x01) v s

/-- `WRWC.02`: the word to index 0x02, verbatim (R122). -/
def execWrwc02 (c : Bank) (v : Slot) (s : State) : Host.Outcome State Fault Refusal :=
  handleWriteWord (regNum c 0x02) v s

/-- `WRWC.03`: the word to index 0x03, masked 0xFC, `Reset(S)` when bit 7 is written (R119). -/
def execWrwc03 (c : Bank) (v : Slot) (s : State) : Host.Outcome State Fault Refusal :=
  handleWriteWord (regNum c 0x03) v s

/-- `WRWC.04`: the word to index 0x04, read-only: nothing is stored (R117). -/
def execWrwc04 (c : Bank) (v : Slot) (s : State) : Host.Outcome State Fault Refusal :=
  handleWriteWord (regNum c 0x04) v s

/-- `WRWC.05`: the word to index 0x05, verbatim (R122). -/
def execWrwc05 (c : Bank) (v : Slot) (s : State) : Host.Outcome State Fault Refusal :=
  handleWriteWord (regNum c 0x05) v s

/-- `WRWC.06`: the word to index 0x06, verbatim (R122). -/
def execWrwc06 (c : Bank) (v : Slot) (s : State) : Host.Outcome State Fault Refusal :=
  handleWriteWord (regNum c 0x06) v s

/-- `WRWC.07`: the word to index 0x07, read-only: nothing is stored (R117). -/
def execWrwc07 (c : Bank) (v : Slot) (s : State) : Host.Outcome State Fault Refusal :=
  handleWriteWord (regNum c 0x07) v s

/-- `WRWC.08`: the word to index 0x08, verbatim (R122). -/
def execWrwc08 (c : Bank) (v : Slot) (s : State) : Host.Outcome State Fault Refusal :=
  handleWriteWord (regNum c 0x08) v s

/-- `WRWC.09`: the word to index 0x09, verbatim (R122). -/
def execWrwc09 (c : Bank) (v : Slot) (s : State) : Host.Outcome State Fault Refusal :=
  handleWriteWord (regNum c 0x09) v s

/-- `WRWC.0A`: the word to index 0x0A, verbatim, low byte mirrored into 0x13 (R118). -/
def execWrwc0A (c : Bank) (v : Slot) (s : State) : Host.Outcome State Fault Refusal :=
  handleWriteWord (regNum c 0x0A) v s

/-- `WRWC.0B`: the word to index 0x0B, verbatim (R122). -/
def execWrwc0B (c : Bank) (v : Slot) (s : State) : Host.Outcome State Fault Refusal :=
  handleWriteWord (regNum c 0x0B) v s

/-- `WRWC.0C`: the word to index 0x0C, verbatim (R122). -/
def execWrwc0C (c : Bank) (v : Slot) (s : State) : Host.Outcome State Fault Refusal :=
  handleWriteWord (regNum c 0x0C) v s

/-- `WRWC.0D`: the word to index 0x0D, read-only: nothing is stored (R117). -/
def execWrwc0D (c : Bank) (v : Slot) (s : State) : Host.Outcome State Fault Refusal :=
  handleWriteWord (regNum c 0x0D) v s

/-- `WRWC.0E`: the word to index 0x0E, verbatim (R122). -/
def execWrwc0E (c : Bank) (v : Slot) (s : State) : Host.Outcome State Fault Refusal :=
  handleWriteWord (regNum c 0x0E) v s

/-- `WRWC.0F`: the word to index 0x0F, masked 0xF8, slot 0x07 recomputed (R120). -/
def execWrwc0F (c : Bank) (v : Slot) (s : State) : Host.Outcome State Fault Refusal :=
  handleWriteWord (regNum c 0x0F) v s

/-- `WRWC.10`: the word to index 0x10, verbatim (R122). -/
def execWrwc10 (c : Bank) (v : Slot) (s : State) : Host.Outcome State Fault Refusal :=
  handleWriteWord (regNum c 0x10) v s

/-- `WRWC.11`: the word to index 0x11, masked 0x7F (R121). -/
def execWrwc11 (c : Bank) (v : Slot) (s : State) : Host.Outcome State Fault Refusal :=
  handleWriteWord (regNum c 0x11) v s

/-- `WRWC.12`: the word to index 0x12, read-only: nothing is stored (R117). -/
def execWrwc12 (c : Bank) (v : Slot) (s : State) : Host.Outcome State Fault Refusal :=
  handleWriteWord (regNum c 0x12) v s

/-- `WRWC.13`: the word to index 0x13, read-only: nothing is stored (R117). -/
def execWrwc13 (c : Bank) (v : Slot) (s : State) : Host.Outcome State Fault Refusal :=
  handleWriteWord (regNum c 0x13) v s

/-- `WRWC.14`: the word to index 0x14, read-only: nothing is stored (R117). -/
def execWrwc14 (c : Bank) (v : Slot) (s : State) : Host.Outcome State Fault Refusal :=
  handleWriteWord (regNum c 0x14) v s

/-- `WRWC.15`: the word to index 0x15, read-only: nothing is stored (R117). -/
def execWrwc15 (c : Bank) (v : Slot) (s : State) : Host.Outcome State Fault Refusal :=
  handleWriteWord (regNum c 0x15) v s

/-- `WRWC.16`: the word to index 0x16, verbatim (R122). -/
def execWrwc16 (c : Bank) (v : Slot) (s : State) : Host.Outcome State Fault Refusal :=
  handleWriteWord (regNum c 0x16) v s

/-- `WRWC.17`: the word to index 0x17, verbatim (R122). -/
def execWrwc17 (c : Bank) (v : Slot) (s : State) : Host.Outcome State Fault Refusal :=
  handleWriteWord (regNum c 0x17) v s

/-- `WRWC.18`: the word to index 0x18, verbatim (R122). -/
def execWrwc18 (c : Bank) (v : Slot) (s : State) : Host.Outcome State Fault Refusal :=
  handleWriteWord (regNum c 0x18) v s

/-- `WRWC.19`: the word to index 0x19, verbatim (R122). -/
def execWrwc19 (c : Bank) (v : Slot) (s : State) : Host.Outcome State Fault Refusal :=
  handleWriteWord (regNum c 0x19) v s

/-- `WRWC.1A`: the word to index 0x1A, verbatim (R122). -/
def execWrwc1A (c : Bank) (v : Slot) (s : State) : Host.Outcome State Fault Refusal :=
  handleWriteWord (regNum c 0x1A) v s

/-- `WRWC.1B`: the word to index 0x1B, verbatim (R122). -/
def execWrwc1B (c : Bank) (v : Slot) (s : State) : Host.Outcome State Fault Refusal :=
  handleWriteWord (regNum c 0x1B) v s

/-- `WRWC.1C`: the word to index 0x1C, verbatim (R122). -/
def execWrwc1C (c : Bank) (v : Slot) (s : State) : Host.Outcome State Fault Refusal :=
  handleWriteWord (regNum c 0x1C) v s

/-- `WRWC.1D`: the word to index 0x1D, verbatim (R122). -/
def execWrwc1D (c : Bank) (v : Slot) (s : State) : Host.Outcome State Fault Refusal :=
  handleWriteWord (regNum c 0x1D) v s

/-- `WRWC.1E`: the word to index 0x1E, verbatim (R122). -/
def execWrwc1E (c : Bank) (v : Slot) (s : State) : Host.Outcome State Fault Refusal :=
  handleWriteWord (regNum c 0x1E) v s

/-- `WRWC.1F`: the word to index 0x1F, verbatim (R122). -/
def execWrwc1F (c : Bank) (v : Slot) (s : State) : Host.Outcome State Fault Refusal :=
  handleWriteWord (regNum c 0x1F) v s

end Sys2Proof.Machine
end

