-- ==== Sys2Proof/Syntax.lean ====
section
/-! DEFINITION. The instructions: one constructor for each row of spec/opcode_table.json (R78). `c` is bits 7:5 of the
command byte, which a row leaves free; `v` is the write value. The index of a row is part of its name. -/

namespace Sys2Proof

/-- One bus transaction as the opcode table lists it (R72, R78). Every operand has exactly the width of its field, so
each term is an instruction some descriptor encodes. -/
inductive Instr where
  /-- `RDB`: byte read, no command (R141). -/
  | rdb
  /-- `WRS`: byte write, no command; sets `sel` (R144). -/
  | wrs (v : Byte)
  -- `RDBC.ii`: byte read of index ii with command (R142)
  | rdbc00 (c : Bank)
  | rdbc01 (c : Bank)
  | rdbc02 (c : Bank)
  | rdbc03 (c : Bank)
  | rdbc04 (c : Bank)
  | rdbc05 (c : Bank)
  | rdbc06 (c : Bank)
  | rdbc07 (c : Bank)
  | rdbc08 (c : Bank)
  | rdbc09 (c : Bank)
  | rdbc0A (c : Bank)
  | rdbc0B (c : Bank)
  | rdbc0C (c : Bank)
  | rdbc0D (c : Bank)
  | rdbc0E (c : Bank)
  | rdbc0F (c : Bank)
  | rdbc10 (c : Bank)
  | rdbc11 (c : Bank)
  | rdbc12 (c : Bank)
  | rdbc13 (c : Bank)
  | rdbc14 (c : Bank)
  | rdbc15 (c : Bank)
  | rdbc16 (c : Bank)
  | rdbc17 (c : Bank)
  | rdbc18 (c : Bank)
  | rdbc19 (c : Bank)
  | rdbc1A (c : Bank)
  | rdbc1B (c : Bank)
  | rdbc1C (c : Bank)
  | rdbc1D (c : Bank)
  | rdbc1E (c : Bank)
  | rdbc1F (c : Bank)
  -- `RDWC.ii`: word read of index ii with command (R143)
  | rdwc00 (c : Bank)
  | rdwc01 (c : Bank)
  | rdwc02 (c : Bank)
  | rdwc03 (c : Bank)
  | rdwc04 (c : Bank)
  | rdwc05 (c : Bank)
  | rdwc06 (c : Bank)
  | rdwc07 (c : Bank)
  | rdwc08 (c : Bank)
  | rdwc09 (c : Bank)
  | rdwc0A (c : Bank)
  | rdwc0B (c : Bank)
  | rdwc0C (c : Bank)
  | rdwc0D (c : Bank)
  | rdwc0E (c : Bank)
  | rdwc0F (c : Bank)
  | rdwc10 (c : Bank)
  | rdwc11 (c : Bank)
  | rdwc12 (c : Bank)
  | rdwc13 (c : Bank)
  | rdwc14 (c : Bank)
  | rdwc15 (c : Bank)
  | rdwc16 (c : Bank)
  | rdwc17 (c : Bank)
  | rdwc18 (c : Bank)
  | rdwc19 (c : Bank)
  | rdwc1A (c : Bank)
  | rdwc1B (c : Bank)
  | rdwc1C (c : Bank)
  | rdwc1D (c : Bank)
  | rdwc1E (c : Bank)
  | rdwc1F (c : Bank)
  -- `WRBC.ii`: byte write to index ii with command (R145)
  | wrbc00 (c : Bank) (v : Byte)
  | wrbc01 (c : Bank) (v : Byte)
  | wrbc02 (c : Bank) (v : Byte)
  | wrbc03 (c : Bank) (v : Byte)
  | wrbc04 (c : Bank) (v : Byte)
  | wrbc05 (c : Bank) (v : Byte)
  | wrbc06 (c : Bank) (v : Byte)
  | wrbc07 (c : Bank) (v : Byte)
  | wrbc08 (c : Bank) (v : Byte)
  | wrbc09 (c : Bank) (v : Byte)
  | wrbc0A (c : Bank) (v : Byte)
  | wrbc0B (c : Bank) (v : Byte)
  | wrbc0C (c : Bank) (v : Byte)
  | wrbc0D (c : Bank) (v : Byte)
  | wrbc0E (c : Bank) (v : Byte)
  | wrbc0F (c : Bank) (v : Byte)
  | wrbc10 (c : Bank) (v : Byte)
  | wrbc11 (c : Bank) (v : Byte)
  | wrbc12 (c : Bank) (v : Byte)
  | wrbc13 (c : Bank) (v : Byte)
  | wrbc14 (c : Bank) (v : Byte)
  | wrbc15 (c : Bank) (v : Byte)
  | wrbc16 (c : Bank) (v : Byte)
  | wrbc17 (c : Bank) (v : Byte)
  | wrbc18 (c : Bank) (v : Byte)
  | wrbc19 (c : Bank) (v : Byte)
  | wrbc1A (c : Bank) (v : Byte)
  | wrbc1B (c : Bank) (v : Byte)
  | wrbc1C (c : Bank) (v : Byte)
  | wrbc1D (c : Bank) (v : Byte)
  | wrbc1E (c : Bank) (v : Byte)
  | wrbc1F (c : Bank) (v : Byte)
  -- `WRWC.ii`: word write to index ii with command (R146)
  | wrwc00 (c : Bank) (v : Slot)
  | wrwc01 (c : Bank) (v : Slot)
  | wrwc02 (c : Bank) (v : Slot)
  | wrwc03 (c : Bank) (v : Slot)
  | wrwc04 (c : Bank) (v : Slot)
  | wrwc05 (c : Bank) (v : Slot)
  | wrwc06 (c : Bank) (v : Slot)
  | wrwc07 (c : Bank) (v : Slot)
  | wrwc08 (c : Bank) (v : Slot)
  | wrwc09 (c : Bank) (v : Slot)
  | wrwc0A (c : Bank) (v : Slot)
  | wrwc0B (c : Bank) (v : Slot)
  | wrwc0C (c : Bank) (v : Slot)
  | wrwc0D (c : Bank) (v : Slot)
  | wrwc0E (c : Bank) (v : Slot)
  | wrwc0F (c : Bank) (v : Slot)
  | wrwc10 (c : Bank) (v : Slot)
  | wrwc11 (c : Bank) (v : Slot)
  | wrwc12 (c : Bank) (v : Slot)
  | wrwc13 (c : Bank) (v : Slot)
  | wrwc14 (c : Bank) (v : Slot)
  | wrwc15 (c : Bank) (v : Slot)
  | wrwc16 (c : Bank) (v : Slot)
  | wrwc17 (c : Bank) (v : Slot)
  | wrwc18 (c : Bank) (v : Slot)
  | wrwc19 (c : Bank) (v : Slot)
  | wrwc1A (c : Bank) (v : Slot)
  | wrwc1B (c : Bank) (v : Slot)
  | wrwc1C (c : Bank) (v : Slot)
  | wrwc1D (c : Bank) (v : Slot)
  | wrwc1E (c : Bank) (v : Slot)
  | wrwc1F (c : Bank) (v : Slot)
  deriving DecidableEq, Repr

end Sys2Proof
end

