-- ==== Sys2Proof/Machine/Dispatch.lean ====
section
/-! DEFINITION. The dispatcher: one arm for each row of the opcode table, each a direct call of its meaning. -/

namespace Sys2Proof.Machine

def exec (i : Instr) (s : State) : Host.Outcome State Fault Refusal :=
  match i with
  | .rdb => Sys2Proof.Machine.execRdb s
  | .wrs v => Sys2Proof.Machine.execWrs v s
  | .rdbc00 c => Sys2Proof.Machine.execRdbc00 c s
  | .rdbc01 c => Sys2Proof.Machine.execRdbc01 c s
  | .rdbc02 c => Sys2Proof.Machine.execRdbc02 c s
  | .rdbc03 c => Sys2Proof.Machine.execRdbc03 c s
  | .rdbc04 c => Sys2Proof.Machine.execRdbc04 c s
  | .rdbc05 c => Sys2Proof.Machine.execRdbc05 c s
  | .rdbc06 c => Sys2Proof.Machine.execRdbc06 c s
  | .rdbc07 c => Sys2Proof.Machine.execRdbc07 c s
  | .rdbc08 c => Sys2Proof.Machine.execRdbc08 c s
  | .rdbc09 c => Sys2Proof.Machine.execRdbc09 c s
  | .rdbc0A c => Sys2Proof.Machine.execRdbc0A c s
  | .rdbc0B c => Sys2Proof.Machine.execRdbc0B c s
  | .rdbc0C c => Sys2Proof.Machine.execRdbc0C c s
  | .rdbc0D c => Sys2Proof.Machine.execRdbc0D c s
  | .rdbc0E c => Sys2Proof.Machine.execRdbc0E c s
  | .rdbc0F c => Sys2Proof.Machine.execRdbc0F c s
  | .rdbc10 c => Sys2Proof.Machine.execRdbc10 c s
  | .rdbc11 c => Sys2Proof.Machine.execRdbc11 c s
  | .rdbc12 c => Sys2Proof.Machine.execRdbc12 c s
  | .rdbc13 c => Sys2Proof.Machine.execRdbc13 c s
  | .rdbc14 c => Sys2Proof.Machine.execRdbc14 c s
  | .rdbc15 c => Sys2Proof.Machine.execRdbc15 c s
  | .rdbc16 c => Sys2Proof.Machine.execRdbc16 c s
  | .rdbc17 c => Sys2Proof.Machine.execRdbc17 c s
  | .rdbc18 c => Sys2Proof.Machine.execRdbc18 c s
  | .rdbc19 c => Sys2Proof.Machine.execRdbc19 c s
  | .rdbc1A c => Sys2Proof.Machine.execRdbc1A c s
  | .rdbc1B c => Sys2Proof.Machine.execRdbc1B c s
  | .rdbc1C c => Sys2Proof.Machine.execRdbc1C c s
  | .rdbc1D c => Sys2Proof.Machine.execRdbc1D c s
  | .rdbc1E c => Sys2Proof.Machine.execRdbc1E c s
  | .rdbc1F c => Sys2Proof.Machine.execRdbc1F c s
  | .rdwc00 c => Sys2Proof.Machine.execRdwc00 c s
  | .rdwc01 c => Sys2Proof.Machine.execRdwc01 c s
  | .rdwc02 c => Sys2Proof.Machine.execRdwc02 c s
  | .rdwc03 c => Sys2Proof.Machine.execRdwc03 c s
  | .rdwc04 c => Sys2Proof.Machine.execRdwc04 c s
  | .rdwc05 c => Sys2Proof.Machine.execRdwc05 c s
  | .rdwc06 c => Sys2Proof.Machine.execRdwc06 c s
  | .rdwc07 c => Sys2Proof.Machine.execRdwc07 c s
  | .rdwc08 c => Sys2Proof.Machine.execRdwc08 c s
  | .rdwc09 c => Sys2Proof.Machine.execRdwc09 c s
  | .rdwc0A c => Sys2Proof.Machine.execRdwc0A c s
  | .rdwc0B c => Sys2Proof.Machine.execRdwc0B c s
  | .rdwc0C c => Sys2Proof.Machine.execRdwc0C c s
  | .rdwc0D c => Sys2Proof.Machine.execRdwc0D c s
  | .rdwc0E c => Sys2Proof.Machine.execRdwc0E c s
  | .rdwc0F c => Sys2Proof.Machine.execRdwc0F c s
  | .rdwc10 c => Sys2Proof.Machine.execRdwc10 c s
  | .rdwc11 c => Sys2Proof.Machine.execRdwc11 c s
  | .rdwc12 c => Sys2Proof.Machine.execRdwc12 c s
  | .rdwc13 c => Sys2Proof.Machine.execRdwc13 c s
  | .rdwc14 c => Sys2Proof.Machine.execRdwc14 c s
  | .rdwc15 c => Sys2Proof.Machine.execRdwc15 c s
  | .rdwc16 c => Sys2Proof.Machine.execRdwc16 c s
  | .rdwc17 c => Sys2Proof.Machine.execRdwc17 c s
  | .rdwc18 c => Sys2Proof.Machine.execRdwc18 c s
  | .rdwc19 c => Sys2Proof.Machine.execRdwc19 c s
  | .rdwc1A c => Sys2Proof.Machine.execRdwc1A c s
  | .rdwc1B c => Sys2Proof.Machine.execRdwc1B c s
  | .rdwc1C c => Sys2Proof.Machine.execRdwc1C c s
  | .rdwc1D c => Sys2Proof.Machine.execRdwc1D c s
  | .rdwc1E c => Sys2Proof.Machine.execRdwc1E c s
  | .rdwc1F c => Sys2Proof.Machine.execRdwc1F c s
  | .wrbc00 c v => Sys2Proof.Machine.execWrbc00 c v s
  | .wrbc01 c v => Sys2Proof.Machine.execWrbc01 c v s
  | .wrbc02 c v => Sys2Proof.Machine.execWrbc02 c v s
  | .wrbc03 c v => Sys2Proof.Machine.execWrbc03 c v s
  | .wrbc04 c v => Sys2Proof.Machine.execWrbc04 c v s
  | .wrbc05 c v => Sys2Proof.Machine.execWrbc05 c v s
  | .wrbc06 c v => Sys2Proof.Machine.execWrbc06 c v s
  | .wrbc07 c v => Sys2Proof.Machine.execWrbc07 c v s
  | .wrbc08 c v => Sys2Proof.Machine.execWrbc08 c v s
  | .wrbc09 c v => Sys2Proof.Machine.execWrbc09 c v s
  | .wrbc0A c v => Sys2Proof.Machine.execWrbc0A c v s
  | .wrbc0B c v => Sys2Proof.Machine.execWrbc0B c v s
  | .wrbc0C c v => Sys2Proof.Machine.execWrbc0C c v s
  | .wrbc0D c v => Sys2Proof.Machine.execWrbc0D c v s
  | .wrbc0E c v => Sys2Proof.Machine.execWrbc0E c v s
  | .wrbc0F c v => Sys2Proof.Machine.execWrbc0F c v s
  | .wrbc10 c v => Sys2Proof.Machine.execWrbc10 c v s
  | .wrbc11 c v => Sys2Proof.Machine.execWrbc11 c v s
  | .wrbc12 c v => Sys2Proof.Machine.execWrbc12 c v s
  | .wrbc13 c v => Sys2Proof.Machine.execWrbc13 c v s
  | .wrbc14 c v => Sys2Proof.Machine.execWrbc14 c v s
  | .wrbc15 c v => Sys2Proof.Machine.execWrbc15 c v s
  | .wrbc16 c v => Sys2Proof.Machine.execWrbc16 c v s
  | .wrbc17 c v => Sys2Proof.Machine.execWrbc17 c v s
  | .wrbc18 c v => Sys2Proof.Machine.execWrbc18 c v s
  | .wrbc19 c v => Sys2Proof.Machine.execWrbc19 c v s
  | .wrbc1A c v => Sys2Proof.Machine.execWrbc1A c v s
  | .wrbc1B c v => Sys2Proof.Machine.execWrbc1B c v s
  | .wrbc1C c v => Sys2Proof.Machine.execWrbc1C c v s
  | .wrbc1D c v => Sys2Proof.Machine.execWrbc1D c v s
  | .wrbc1E c v => Sys2Proof.Machine.execWrbc1E c v s
  | .wrbc1F c v => Sys2Proof.Machine.execWrbc1F c v s
  | .wrwc00 c v => Sys2Proof.Machine.execWrwc00 c v s
  | .wrwc01 c v => Sys2Proof.Machine.execWrwc01 c v s
  | .wrwc02 c v => Sys2Proof.Machine.execWrwc02 c v s
  | .wrwc03 c v => Sys2Proof.Machine.execWrwc03 c v s
  | .wrwc04 c v => Sys2Proof.Machine.execWrwc04 c v s
  | .wrwc05 c v => Sys2Proof.Machine.execWrwc05 c v s
  | .wrwc06 c v => Sys2Proof.Machine.execWrwc06 c v s
  | .wrwc07 c v => Sys2Proof.Machine.execWrwc07 c v s
  | .wrwc08 c v => Sys2Proof.Machine.execWrwc08 c v s
  | .wrwc09 c v => Sys2Proof.Machine.execWrwc09 c v s
  | .wrwc0A c v => Sys2Proof.Machine.execWrwc0A c v s
  | .wrwc0B c v => Sys2Proof.Machine.execWrwc0B c v s
  | .wrwc0C c v => Sys2Proof.Machine.execWrwc0C c v s
  | .wrwc0D c v => Sys2Proof.Machine.execWrwc0D c v s
  | .wrwc0E c v => Sys2Proof.Machine.execWrwc0E c v s
  | .wrwc0F c v => Sys2Proof.Machine.execWrwc0F c v s
  | .wrwc10 c v => Sys2Proof.Machine.execWrwc10 c v s
  | .wrwc11 c v => Sys2Proof.Machine.execWrwc11 c v s
  | .wrwc12 c v => Sys2Proof.Machine.execWrwc12 c v s
  | .wrwc13 c v => Sys2Proof.Machine.execWrwc13 c v s
  | .wrwc14 c v => Sys2Proof.Machine.execWrwc14 c v s
  | .wrwc15 c v => Sys2Proof.Machine.execWrwc15 c v s
  | .wrwc16 c v => Sys2Proof.Machine.execWrwc16 c v s
  | .wrwc17 c v => Sys2Proof.Machine.execWrwc17 c v s
  | .wrwc18 c v => Sys2Proof.Machine.execWrwc18 c v s
  | .wrwc19 c v => Sys2Proof.Machine.execWrwc19 c v s
  | .wrwc1A c v => Sys2Proof.Machine.execWrwc1A c v s
  | .wrwc1B c v => Sys2Proof.Machine.execWrwc1B c v s
  | .wrwc1C c v => Sys2Proof.Machine.execWrwc1C c v s
  | .wrwc1D c v => Sys2Proof.Machine.execWrwc1D c v s
  | .wrwc1E c v => Sys2Proof.Machine.execWrwc1E c v s
  | .wrwc1F c v => Sys2Proof.Machine.execWrwc1F c v s

end Sys2Proof.Machine
end

