-- ==== Sys2Proof/Decode.lean ====
section
/-! DEFINITION. Decoding a descriptor, total on all 32-bit words and rejecting by name, and encoding an instruction
(30_encoding.md). The six transaction shapes with their operands stand between the two. -/

namespace Sys2Proof

open Sys2Proof.Machine

/-- The six transaction shapes (R72). -/
inductive Shape where
  | rdb | rdbc | rdwc | wrs | wrbc | wrwc
  deriving DecidableEq, Repr

/-- A transaction as its handler receives it: the shape and its operands, `n` the whole command byte (R141 to R146). -/
inductive Request where
  | rdb
  | rdbc (n : Byte)
  | rdwc (n : Byte)
  | wrs (v : Byte)
  | wrbc (n : Byte) (v : Byte)
  | wrwc (n : Byte) (v : Slot)
  deriving DecidableEq, Repr

/-- Why a descriptor is no transaction (R81). -/
inductive Reject where
  /-- Code 3 of R187: no such transaction shape. -/
  | noSuchShape
  /-- Code 4 of R187: a reserved or unused field is not zero. -/
  | nonCanonical
  deriving DecidableEq, Repr

/-! ### Fields of a descriptor (R71) -/

/-- `D`, bit 31: write. -/
def dirField (d : Descriptor) : Bool := d.getLsbD 31
/-- `C`, bit 30: a command byte is present. -/
def cmdPresent (d : Descriptor) : Bool := d.getLsbD 30
/-- `W`, bit 29: word width. -/
def wideField (d : Descriptor) : Bool := d.getLsbD 29
/-- `RSV`, bits 28:24. -/
def rsvField (d : Descriptor) : BitVec 5 := d.extractLsb' 24 5
/-- `CMD`, bits 23:16. -/
def cmdField (d : Descriptor) : Byte := d.extractLsb' 16 8
/-- `DATA`, bits 15:0. -/
def dataField (d : Descriptor) : Slot := d.extractLsb' 0 16

/-! ### Decoding -/

/-- `(D, C, W)` selects the shape; two of the eight combinations select none (R72). -/
def shapeOf (D C W : Bool) : Option Shape :=
  match D, C, W with
  | false, false, false => some .rdb
  | false, true, false => some .rdbc
  | false, true, true => some .rdwc
  | true, false, false => some .wrs
  | true, true, false => some .wrbc
  | true, true, true => some .wrwc
  | false, false, true => none
  | true, false, true => none

/-- The reserved bits are zero (R79). -/
def rsvClear (d : Descriptor) : Bool := rsvField d = 0
/-- Without a command byte, `CMD` is zero (R79). -/
def cmdClear (d : Descriptor) : Bool := cmdPresent d || cmdField d = 0
/-- On a read, `DATA` is zero (R79). -/
def dataClear (d : Descriptor) : Bool := dirField d || dataField d = 0
/-- On a byte write, `DATA[15:8]` is zero (R79). -/
def highDataClear (d : Descriptor) : Bool := !dirField d || wideField d || highByte (dataField d) = 0

/-- No field a shape does not use is set (R79). -/
def canonical (d : Descriptor) : Bool := rsvClear d && cmdClear d && dataClear d && highDataClear d

/-- The operands of a shape (R74, R75). -/
def requestOf (d : Descriptor) : Shape → Request
  | .rdb => .rdb
  | .rdbc => .rdbc (cmdField d)
  | .rdwc => .rdwc (cmdField d)
  | .wrs => .wrs (lowByte (dataField d))
  | .wrbc => .wrbc (cmdField d) (lowByte (dataField d))
  | .wrwc => .wrwc (cmdField d) (dataField d)

/-- The shape is looked at before the fields that must be zero (R81, R191). -/
def decodeRequest (d : Descriptor) : Except Reject Request :=
  match shapeOf (dirField d) (cmdPresent d) (wideField d) with
  | none => .error .noSuchShape
  | some s => if canonical d then .ok (requestOf d s) else .error .nonCanonical

/-- The rows of the byte read with command, by index (R77, R78). -/
def rdbcRows : Vector (Bank → Instr) 32 := #v[
  .rdbc00, .rdbc01, .rdbc02, .rdbc03, .rdbc04, .rdbc05, .rdbc06, .rdbc07,
  .rdbc08, .rdbc09, .rdbc0A, .rdbc0B, .rdbc0C, .rdbc0D, .rdbc0E, .rdbc0F,
  .rdbc10, .rdbc11, .rdbc12, .rdbc13, .rdbc14, .rdbc15, .rdbc16, .rdbc17,
  .rdbc18, .rdbc19, .rdbc1A, .rdbc1B, .rdbc1C, .rdbc1D, .rdbc1E, .rdbc1F]

/-- The rows of the word read with command, by index (R77, R78). -/
def rdwcRows : Vector (Bank → Instr) 32 := #v[
  .rdwc00, .rdwc01, .rdwc02, .rdwc03, .rdwc04, .rdwc05, .rdwc06, .rdwc07,
  .rdwc08, .rdwc09, .rdwc0A, .rdwc0B, .rdwc0C, .rdwc0D, .rdwc0E, .rdwc0F,
  .rdwc10, .rdwc11, .rdwc12, .rdwc13, .rdwc14, .rdwc15, .rdwc16, .rdwc17,
  .rdwc18, .rdwc19, .rdwc1A, .rdwc1B, .rdwc1C, .rdwc1D, .rdwc1E, .rdwc1F]

/-- The rows of the byte write with command, by index (R77, R78). -/
def wrbcRows : Vector (Bank → Byte → Instr) 32 := #v[
  .wrbc00, .wrbc01, .wrbc02, .wrbc03, .wrbc04, .wrbc05, .wrbc06, .wrbc07,
  .wrbc08, .wrbc09, .wrbc0A, .wrbc0B, .wrbc0C, .wrbc0D, .wrbc0E, .wrbc0F,
  .wrbc10, .wrbc11, .wrbc12, .wrbc13, .wrbc14, .wrbc15, .wrbc16, .wrbc17,
  .wrbc18, .wrbc19, .wrbc1A, .wrbc1B, .wrbc1C, .wrbc1D, .wrbc1E, .wrbc1F]

/-- The rows of the word write with command, by index (R77, R78). -/
def wrwcRows : Vector (Bank → Slot → Instr) 32 := #v[
  .wrwc00, .wrwc01, .wrwc02, .wrwc03, .wrwc04, .wrwc05, .wrwc06, .wrwc07,
  .wrwc08, .wrwc09, .wrwc0A, .wrwc0B, .wrwc0C, .wrwc0D, .wrwc0E, .wrwc0F,
  .wrwc10, .wrwc11, .wrwc12, .wrwc13, .wrwc14, .wrwc15, .wrwc16, .wrwc17,
  .wrwc18, .wrwc19, .wrwc1A, .wrwc1B, .wrwc1C, .wrwc1D, .wrwc1E, .wrwc1F]

/-- The opcode-table row a transaction falls into: its shape, and with a command byte its index (R77, R78). -/
def Instr.ofRequest : Request → Instr
  | .rdb => .rdb
  | .rdbc n => (rdbcRows[(idx n).toNat]'(idx n).isLt) (bank n)
  | .rdwc n => (rdwcRows[(idx n).toNat]'(idx n).isLt) (bank n)
  | .wrs v => .wrs v
  | .wrbc n v => (wrbcRows[(idx n).toNat]'(idx n).isLt) (bank n) v
  | .wrwc n v => (wrwcRows[(idx n).toNat]'(idx n).isLt) (bank n) v

/-- The instruction a descriptor stands for, or the name of its rejection (R72, R81). -/
def decode (d : Descriptor) : Except Reject Instr :=
  match decodeRequest d with
  | .ok r => .ok (Instr.ofRequest r)
  | .error e => .error e

/-- The one descriptor word of an instruction whose bits are `w`, the bits above `nbits` being 0 (R73: every
descriptor is 32 bits). -/
def tableWord (nbits w : Nat) : Descriptor := BitVec.ofNat 32 (w % 2 ^ nbits)

/-- What the decoder reads from a table row's word. -/
def decodeTableWord (nbits w : Nat) : Option Instr :=
  match decode (tableWord nbits w) with
  | .ok i => some i
  | .error _ => none

/-! ### Encoding -/

/-- The transaction an instruction is: the handler's shape, the command byte from the row's index and its alias bits,
and the write value. -/
def Instr.request : Instr → Request
  | .rdb => .rdb
  | .wrs v => .wrs v
  | .rdbc00 c => .rdbc (regNum c 0x00)
  | .rdbc01 c => .rdbc (regNum c 0x01)
  | .rdbc02 c => .rdbc (regNum c 0x02)
  | .rdbc03 c => .rdbc (regNum c 0x03)
  | .rdbc04 c => .rdbc (regNum c 0x04)
  | .rdbc05 c => .rdbc (regNum c 0x05)
  | .rdbc06 c => .rdbc (regNum c 0x06)
  | .rdbc07 c => .rdbc (regNum c 0x07)
  | .rdbc08 c => .rdbc (regNum c 0x08)
  | .rdbc09 c => .rdbc (regNum c 0x09)
  | .rdbc0A c => .rdbc (regNum c 0x0A)
  | .rdbc0B c => .rdbc (regNum c 0x0B)
  | .rdbc0C c => .rdbc (regNum c 0x0C)
  | .rdbc0D c => .rdbc (regNum c 0x0D)
  | .rdbc0E c => .rdbc (regNum c 0x0E)
  | .rdbc0F c => .rdbc (regNum c 0x0F)
  | .rdbc10 c => .rdbc (regNum c 0x10)
  | .rdbc11 c => .rdbc (regNum c 0x11)
  | .rdbc12 c => .rdbc (regNum c 0x12)
  | .rdbc13 c => .rdbc (regNum c 0x13)
  | .rdbc14 c => .rdbc (regNum c 0x14)
  | .rdbc15 c => .rdbc (regNum c 0x15)
  | .rdbc16 c => .rdbc (regNum c 0x16)
  | .rdbc17 c => .rdbc (regNum c 0x17)
  | .rdbc18 c => .rdbc (regNum c 0x18)
  | .rdbc19 c => .rdbc (regNum c 0x19)
  | .rdbc1A c => .rdbc (regNum c 0x1A)
  | .rdbc1B c => .rdbc (regNum c 0x1B)
  | .rdbc1C c => .rdbc (regNum c 0x1C)
  | .rdbc1D c => .rdbc (regNum c 0x1D)
  | .rdbc1E c => .rdbc (regNum c 0x1E)
  | .rdbc1F c => .rdbc (regNum c 0x1F)
  | .rdwc00 c => .rdwc (regNum c 0x00)
  | .rdwc01 c => .rdwc (regNum c 0x01)
  | .rdwc02 c => .rdwc (regNum c 0x02)
  | .rdwc03 c => .rdwc (regNum c 0x03)
  | .rdwc04 c => .rdwc (regNum c 0x04)
  | .rdwc05 c => .rdwc (regNum c 0x05)
  | .rdwc06 c => .rdwc (regNum c 0x06)
  | .rdwc07 c => .rdwc (regNum c 0x07)
  | .rdwc08 c => .rdwc (regNum c 0x08)
  | .rdwc09 c => .rdwc (regNum c 0x09)
  | .rdwc0A c => .rdwc (regNum c 0x0A)
  | .rdwc0B c => .rdwc (regNum c 0x0B)
  | .rdwc0C c => .rdwc (regNum c 0x0C)
  | .rdwc0D c => .rdwc (regNum c 0x0D)
  | .rdwc0E c => .rdwc (regNum c 0x0E)
  | .rdwc0F c => .rdwc (regNum c 0x0F)
  | .rdwc10 c => .rdwc (regNum c 0x10)
  | .rdwc11 c => .rdwc (regNum c 0x11)
  | .rdwc12 c => .rdwc (regNum c 0x12)
  | .rdwc13 c => .rdwc (regNum c 0x13)
  | .rdwc14 c => .rdwc (regNum c 0x14)
  | .rdwc15 c => .rdwc (regNum c 0x15)
  | .rdwc16 c => .rdwc (regNum c 0x16)
  | .rdwc17 c => .rdwc (regNum c 0x17)
  | .rdwc18 c => .rdwc (regNum c 0x18)
  | .rdwc19 c => .rdwc (regNum c 0x19)
  | .rdwc1A c => .rdwc (regNum c 0x1A)
  | .rdwc1B c => .rdwc (regNum c 0x1B)
  | .rdwc1C c => .rdwc (regNum c 0x1C)
  | .rdwc1D c => .rdwc (regNum c 0x1D)
  | .rdwc1E c => .rdwc (regNum c 0x1E)
  | .rdwc1F c => .rdwc (regNum c 0x1F)
  | .wrbc00 c v => .wrbc (regNum c 0x00) v
  | .wrbc01 c v => .wrbc (regNum c 0x01) v
  | .wrbc02 c v => .wrbc (regNum c 0x02) v
  | .wrbc03 c v => .wrbc (regNum c 0x03) v
  | .wrbc04 c v => .wrbc (regNum c 0x04) v
  | .wrbc05 c v => .wrbc (regNum c 0x05) v
  | .wrbc06 c v => .wrbc (regNum c 0x06) v
  | .wrbc07 c v => .wrbc (regNum c 0x07) v
  | .wrbc08 c v => .wrbc (regNum c 0x08) v
  | .wrbc09 c v => .wrbc (regNum c 0x09) v
  | .wrbc0A c v => .wrbc (regNum c 0x0A) v
  | .wrbc0B c v => .wrbc (regNum c 0x0B) v
  | .wrbc0C c v => .wrbc (regNum c 0x0C) v
  | .wrbc0D c v => .wrbc (regNum c 0x0D) v
  | .wrbc0E c v => .wrbc (regNum c 0x0E) v
  | .wrbc0F c v => .wrbc (regNum c 0x0F) v
  | .wrbc10 c v => .wrbc (regNum c 0x10) v
  | .wrbc11 c v => .wrbc (regNum c 0x11) v
  | .wrbc12 c v => .wrbc (regNum c 0x12) v
  | .wrbc13 c v => .wrbc (regNum c 0x13) v
  | .wrbc14 c v => .wrbc (regNum c 0x14) v
  | .wrbc15 c v => .wrbc (regNum c 0x15) v
  | .wrbc16 c v => .wrbc (regNum c 0x16) v
  | .wrbc17 c v => .wrbc (regNum c 0x17) v
  | .wrbc18 c v => .wrbc (regNum c 0x18) v
  | .wrbc19 c v => .wrbc (regNum c 0x19) v
  | .wrbc1A c v => .wrbc (regNum c 0x1A) v
  | .wrbc1B c v => .wrbc (regNum c 0x1B) v
  | .wrbc1C c v => .wrbc (regNum c 0x1C) v
  | .wrbc1D c v => .wrbc (regNum c 0x1D) v
  | .wrbc1E c v => .wrbc (regNum c 0x1E) v
  | .wrbc1F c v => .wrbc (regNum c 0x1F) v
  | .wrwc00 c v => .wrwc (regNum c 0x00) v
  | .wrwc01 c v => .wrwc (regNum c 0x01) v
  | .wrwc02 c v => .wrwc (regNum c 0x02) v
  | .wrwc03 c v => .wrwc (regNum c 0x03) v
  | .wrwc04 c v => .wrwc (regNum c 0x04) v
  | .wrwc05 c v => .wrwc (regNum c 0x05) v
  | .wrwc06 c v => .wrwc (regNum c 0x06) v
  | .wrwc07 c v => .wrwc (regNum c 0x07) v
  | .wrwc08 c v => .wrwc (regNum c 0x08) v
  | .wrwc09 c v => .wrwc (regNum c 0x09) v
  | .wrwc0A c v => .wrwc (regNum c 0x0A) v
  | .wrwc0B c v => .wrwc (regNum c 0x0B) v
  | .wrwc0C c v => .wrwc (regNum c 0x0C) v
  | .wrwc0D c v => .wrwc (regNum c 0x0D) v
  | .wrwc0E c v => .wrwc (regNum c 0x0E) v
  | .wrwc0F c v => .wrwc (regNum c 0x0F) v
  | .wrwc10 c v => .wrwc (regNum c 0x10) v
  | .wrwc11 c v => .wrwc (regNum c 0x11) v
  | .wrwc12 c v => .wrwc (regNum c 0x12) v
  | .wrwc13 c v => .wrwc (regNum c 0x13) v
  | .wrwc14 c v => .wrwc (regNum c 0x14) v
  | .wrwc15 c v => .wrwc (regNum c 0x15) v
  | .wrwc16 c v => .wrwc (regNum c 0x16) v
  | .wrwc17 c v => .wrwc (regNum c 0x17) v
  | .wrwc18 c v => .wrwc (regNum c 0x18) v
  | .wrwc19 c v => .wrwc (regNum c 0x19) v
  | .wrwc1A c v => .wrwc (regNum c 0x1A) v
  | .wrwc1B c v => .wrwc (regNum c 0x1B) v
  | .wrwc1C c v => .wrwc (regNum c 0x1C) v
  | .wrwc1D c v => .wrwc (regNum c 0x1D) v
  | .wrwc1E c v => .wrwc (regNum c 0x1E) v
  | .wrwc1F c v => .wrwc (regNum c 0x1F) v

/-- A descriptor from its fields, `RSV` zero (R71): `D<<31 | C<<30 | W<<29 | CMD<<16 | DATA` (R84). -/
def pack (D C W : Bool) (cmd : Byte) (data : Slot) : Descriptor :=
  (BitVec.ofBool D ++ BitVec.ofBool C ++ BitVec.ofBool W ++ (0 : BitVec 5)) ++ cmd ++ data

/-- The descriptor of a transaction; fields its shape does not use are zero (R71, R72). -/
def encodeRequest : Request → Descriptor
  | .rdb => pack false false false 0 0
  | .rdbc n => pack false true false n 0
  | .rdwc n => pack false true true n 0
  | .wrs v => pack true false false 0 (zext16 v)
  | .wrbc n v => pack true true false n (zext16 v)
  | .wrwc n v => pack true true true n v

/-- The word of an instruction (R71, R78). -/
def encode (i : Instr) : Descriptor := encodeRequest i.request

/-! ### The row patterns (R78) -/

/-- The mask of an instruction's opcode-table row. -/
def Instr.rowMask (i : Instr) : Descriptor :=
  match i.request with
  | .rdb => 0xFFFFFFFF
  | .wrs _ => 0xFFFFFF00
  | .rdbc _ => 0xFF1FFFFF
  | .rdwc _ => 0xFF1FFFFF
  | .wrbc _ _ => 0xFF1FFF00
  | .wrwc _ _ => 0xFF1F0000

/-- The match value of an instruction's opcode-table row. -/
def Instr.rowMatch (i : Instr) : Descriptor :=
  match i.request with
  | .rdb => 0x00000000
  | .wrs _ => 0x80000000
  | .rdbc n => (0x40000000 : Descriptor) ||| ((idx n).setWidth 32 <<< 16)
  | .rdwc n => (0x60000000 : Descriptor) ||| ((idx n).setWidth 32 <<< 16)
  | .wrbc n _ => (0xC0000000 : Descriptor) ||| ((idx n).setWidth 32 <<< 16)
  | .wrwc n _ => (0xE0000000 : Descriptor) ||| ((idx n).setWidth 32 <<< 16)

/-- A descriptor matches the row of `i` (R78: `d & mask = match`). -/
def Instr.rowMatches (i : Instr) (d : Descriptor) : Bool := d &&& i.rowMask = i.rowMatch

end Sys2Proof
end

