-- ==== Sys2Proof/WellFormed.lean ====
section
/-! DEFINITION. Which inputs are well formed: descriptors (R72, R79), parameters (D10, D14), sensor readings (D13). An
`Instr` carries each operand at the width of its field, so its own check is that its descriptor passes. -/

namespace Sys2Proof

open Sys2Proof.Machine

/-- `(D, C, W)` is one of the six shapes (R72). -/
def Descriptor.hasShape (d : Descriptor) : Bool := (shapeOf (dirField d) (cmdPresent d) (wideField d)).isSome

/-- A descriptor the transport can hand over: one of the six shapes, with every field it does not use zero (R79, R81). -/
def Descriptor.WellFormed (d : Descriptor) : Bool :=
  Descriptor.hasShape d && rsvClear d && cmdClear d && dataClear d && highDataClear d

/-- An instruction is well formed when its descriptor is. -/
def Instr.WellFormed (i : Instr) : Bool := Descriptor.WellFormed (encode i)

/-- The constraint on `P_FANDIV_RESET`: bits 15:8 zero, bits 7:4 all ones, bits 2:0 zero (D10, I11). -/
def Params.fandivWellFormed (p : Params) : Bool := p.fandivReset &&& 0xFFF7 = 0x00F0

/-- The seeds of rails 0 and 1 are readings in their domain (D13, I12). -/
def Params.seedsWellFormed (p : Params) : Bool := p.vcore ≤ readingMax && p.seedV1 ≤ readingMax

/-- The instantiations of the parameters a chip can have. -/
def Params.WellFormed (p : Params) : Bool := p.fandivWellFormed && p.seedsWellFormed

/-- Both fan speeds are in their domain (D13). -/
def Machine.Sensors.fansWellFormed (S : Sensors) : Bool := S.fan0 ≤ readingMax && S.fan1 ≤ readingMax

/-- The three rail voltages are in their domain (D13). -/
def Machine.Sensors.voltsWellFormed (S : Sensors) : Bool :=
  S.volt0 ≤ readingMax && S.volt1 ≤ readingMax && S.volt2 ≤ readingMax

/-- The readings the host may hold; every integer is a temperature (D13, R171, I25). -/
def Machine.Sensors.WellFormed (S : Sensors) : Bool := S.fansWellFormed && S.voltsWellFormed

/-- A new value the host may give a reading: in the reading's domain (D13, I17). -/
def Machine.Reading.WellFormed : Reading → Bool
  | .fan0 x => x ≤ readingMax
  | .fan1 x => x ≤ readingMax
  | .temp0 _ => true
  | .volt0 x => x ≤ readingMax
  | .volt1 x => x ≤ readingMax
  | .volt2 x => x ≤ readingMax

end Sys2Proof
end

