-- ==== Sys2Proof/Machine/Lifecycle.lean ====
section
/-! DEFINITION. The host operations (44_lifecycle.md, R147): create, destroy, remap and sensor update. -/

namespace Sys2Proof.Machine

/-- The chip a successful create leaves: zeroed and unbound, the source seeded, `Reset(S)`, bound at the configured
address masked to 7 bits, live (R165, R166, D16). -/
def State.created (s : State) (config : Byte) : State :=
  let zeroed := { s with
    regs := zeroSlots
    sel := 0
    phase := .noPendingSelection
    bus := Config.unboundAddress
    sensors := Sensors.seed s.params }
  { zeroed.applyReset.remapTo (config &&& 0x7F) with life := .live }

/-- `create(config)` (R165). A failed create leaves no chip, binds no address and reads no sensor (R169). Parameters
outside their constraint are refused here, at instantiation (D10), and so is a source that holds a reading outside its
domain, which the host must not provide (R215, I25). -/
def createChip (config : Byte) (fails : Bool) (s : State) : Host.Outcome State Fault Refusal :=
  if s.life = .live then .refused .alreadyLive
  else if !s.params.WellFormed then .refused .badParams
  else if !s.sensors.WellFormed then .refused .sensorOutOfDomain
  else if fails then .next { s with last := .createFailed }
  else .next { s.created config with last := .done }

/-- The create of one of the two variants: with its default address (R170). -/
def createVariant (v : Variant) (fails : Bool) (s : State) : Host.Outcome State Fault Refusal :=
  createChip v.address fails s

/-- `destroy()`: unbind first, then release (R168). -/
def destroyChip (s : State) : Host.Outcome State Fault Refusal :=
  if s.life = .live then .next { s.remapTo Config.unboundAddress with life := .destroyed, last := .done }
  else .refused .notLive

/-- `remap(a)` called by the host between any two steps; `a` is not masked (R147, R149). -/
def remapChip (a : Byte) (s : State) : Host.Outcome State Fault Refusal :=
  if s.life = .live then .next { s.remapTo a with last := .done } else .refused .notLive

/-- `sensor_update`: the source changes and no state of the chip does (R171); the host supplies no reading outside its
domain (I17, I25). -/
def updateSensors (rs : List Reading) (s : State) : Host.Outcome State Fault Refusal :=
  if rs.all Reading.WellFormed then .next { s with sensors := s.sensors.updateAll rs, last := .done }
  else .refused .sensorOutOfDomain

/-- A host operation on this chip (R172). -/
def callHost (op : HostOp) (s : State) : Host.Outcome State Fault Refusal :=
  match op with
  | .create config fails => createChip config fails s
  | .destroy => destroyChip s
  | .remap a => remapChip a s
  | .sensor rs => updateSensors rs s

/-- What the host has before a create: parameters and a source holding readings, and no chip (R215). Create checks the
readings' domains. -/
def State.uncreated (p : Params) (S : Sensors) : State where
  regs := zeroSlots
  sel := 0
  bus := Config.unboundAddress
  phase := .noPendingSelection
  life := .absent
  sensors := S
  params := p
  snapshot := S
  fanSnapshot := (S.fan0, S.fan1)
  pending := []
  last := .done

end Sys2Proof.Machine
end

