-- ==== Sys2Proof/Machine/Deliver.lean ====
section
/-! DEFINITION. What one event of the host does: a transaction is decoded, routed and run (R70, R140, R191), a host
operation is carried out. Also how the next transaction is put before the machine. -/

namespace Sys2Proof.Machine

/-- Run a decoded transaction sent to `A` on this chip, or leave the chip as it is when it is not this chip's (R140). -/
def deliver (A : BusAddress) (i : Instr) (s : State) : Host.Outcome State Fault Refusal :=
  if s.answers A then exec i s else .next { s with last := .notDelivered A }

/-- A transaction `(A, d)`: a malformed descriptor is refused whatever its address (R81, R191). -/
def transact (A : BusAddress) (d : Descriptor) (s : State) : Host.Outcome State Fault Refusal :=
  match decode d with
  | .ok i => deliver A i s
  | .error .noSuchShape => .refused (.noSuchShape d)
  | .error .nonCanonical => .refused (.nonCanonical d)

/-- One event of the host, run whole (R13, R172). -/
def handle (e : Event) (s : State) : Host.Outcome State Fault Refusal :=
  match e with
  | .transact A d => transact A d s
  | .host op => callHost op s

/-- Take the host's oldest event and run it; with none pending the block does nothing (R27, R62, R190). -/
def advance (s : State) : Host.Outcome State Fault Refusal :=
  match s.pending with
  | [] => .next s
  | e :: rest => handle e { s with pending := rest }

/-- A chip some transaction reaches: `s` itself when it is live and bound, else `s` live at the default address. -/
def State.reachable (s : State) : State :=
  if s.life = .live && s.bound then s else { s with life := .live, bus := Config.defaultAddress }

/-- `s` with one transaction, sent to this chip, as the host's oldest event. -/
def State.withTransaction (s : State) (d : Descriptor) : State :=
  { s.reachable with pending := .transact (s.reachable.bus.setWidth 7) d :: s.pending }

end Sys2Proof.Machine
end

