-- ==== Sys2Proof/Machine/Step.lean ====
section
/-! DEFINITION. The step of the machine. -/

namespace Sys2Proof.Machine

/-- One step: the host's oldest pending event (R62, R172). -/
def step (s : State) : Host.Outcome State Fault Refusal := advance s

/-- `s` with the table word `w` as the next transaction sent to this chip; the host loads transactions from outside the
machine (log 5). -/
def State.withFetchWord (s : State) (nbits w : Nat) : State := s.withTransaction (tableWord nbits w)

end Sys2Proof.Machine
end

