-- ==== Sys2Proof/Machine/Assembler.lean ====
section
/-! DEFINITION. The assembler of 30_encoding.md section 6: its lines, what each assembles to, and how each is written. -/

namespace Sys2Proof.Machine

/-- One line of the assembler, operands as written (R83). -/
inductive Line where
  | rdb (A : Nat)
  | rdbc (A n : Nat)
  | rdwc (A n : Nat)
  | wrs (A v : Nat)
  | wrbc (A n v : Nat)
  | wrwc (A n v : Nat)
  | create (a : Nat)
  | destroy
  | remap (a : Nat)
  | sensor (readings : List Reading)
  deriving DecidableEq, Repr

/-- "An operand out of range is an assembly error, never a truncation" (R84). -/
inductive AsmError where
  | operandOutOfRange
  deriving DecidableEq, Repr

/-- Every operand of the line fits its field (R84; the address is 7 bits, R70, and `REMAP`'s operand 8, R83). DESIGN CHOICE:
`CREATE`'s operand is 8 bits wide and a larger one is an assembly error, since R83 and R165 give it no width; safe
(log 16). -/
def Line.WellFormed : Line → Bool
  | .rdb A => A < 0x80
  | .rdbc A n => A < 0x80 && n < 0x100
  | .rdwc A n => A < 0x80 && n < 0x100
  | .wrs A v => A < 0x80 && v < 0x100
  | .wrbc A n v => A < 0x80 && n < 0x100 && v < 0x100
  | .wrwc A n v => A < 0x80 && n < 0x100 && v < 0x10000
  | .create a => a < 0x100
  | .destroy => true
  | .remap a => a < 0x100
  | .sensor _ => true

/-- A transaction line's descriptor: `D<<31 | C<<30 | W<<29 | n<<16 | v` (R84). -/
def assembleBits (D C W n v : Nat) : Descriptor :=
  BitVec.ofNat 32 (D <<< 31 ||| C <<< 30 ||| W <<< 29 ||| n <<< 16 ||| v)

/-- The event of a line whose operands fit. `fails` is the draw `P_CREATE_FAILS` of a create (log 6). -/
def Line.event (fails : Bool) : Line → Event
  | .rdb A => .transact (BitVec.ofNat 7 A) (assembleBits 0 0 0 0 0)
  | .rdbc A n => .transact (BitVec.ofNat 7 A) (assembleBits 0 1 0 n 0)
  | .rdwc A n => .transact (BitVec.ofNat 7 A) (assembleBits 0 1 1 n 0)
  | .wrs A v => .transact (BitVec.ofNat 7 A) (assembleBits 1 0 0 0 v)
  | .wrbc A n v => .transact (BitVec.ofNat 7 A) (assembleBits 1 1 0 n v)
  | .wrwc A n v => .transact (BitVec.ofNat 7 A) (assembleBits 1 1 1 n v)
  | .create a => .host (.create (BitVec.ofNat 8 a) fails)
  | .destroy => .host .destroy
  | .remap a => .host (.remap (BitVec.ofNat 8 a))
  | .sensor rs => .host (.sensor rs)

/-- Assemble one line (R84). -/
def Line.assemble (fails : Bool) (l : Line) : Except AsmError Event :=
  if l.WellFormed then .ok (l.event fails) else .error .operandOutOfRange

/-- A reading as a `SENSOR` line writes it (R83). -/
def Reading.text : Reading → String
  | .fan0 x => "fan0=" ++ toString x
  | .fan1 x => "fan1=" ++ toString x
  | .temp0 x => "temp0=" ++ toString x
  | .volt0 x => "volt0=" ++ toString x
  | .volt1 x => "volt1=" ++ toString x
  | .volt2 x => "volt2=" ++ toString x

/-- A line in the syntax of R83, numbers in decimal (R9). -/
def Line.text : Line → String
  | .rdb A => "@" ++ toString A ++ " RDB"
  | .rdbc A n => "@" ++ toString A ++ " RDBC " ++ toString n
  | .rdwc A n => "@" ++ toString A ++ " RDWC " ++ toString n
  | .wrs A v => "@" ++ toString A ++ " WRS " ++ toString v
  | .wrbc A n v => "@" ++ toString A ++ " WRBC " ++ toString n ++ ", " ++ toString v
  | .wrwc A n v => "@" ++ toString A ++ " WRWC " ++ toString n ++ ", " ++ toString v
  | .create a => "CREATE " ++ toString a
  | .destroy => "DESTROY"
  | .remap a => "REMAP " ++ toString a
  | .sensor rs => "SENSOR " ++ ", ".intercalate (rs.map Reading.text)

end Sys2Proof.Machine
end

