-- ==== Sys2Proof/Machine/Outcome.lean ====
section
/-! DEFINITION. The closed outcome type of R187 with its codes, and the outcome of a transaction in the order of R191, the
internal `NotApplied` included. -/

namespace Sys2Proof.Machine

/-- The result of a read at its width (R76). -/
inductive ReadValue where
  | byte (r : Byte)
  | word (r : Slot)
  deriving DecidableEq, Repr

/-- Every outcome a step can have, with the value it records (R187, D32). -/
inductive StepOutcome where
  /-- A delivered transaction or a host operation that succeeds; the read result, for reads. -/
  | done (value : Option ReadValue)
  /-- `WriteReg` on a read-only index; the index. Internal: it never reaches the bus. -/
  | notApplied (i : Index)
  /-- A transaction that is not this chip's; the address. -/
  | notDelivered (A : BusAddress)
  /-- No transaction shape; the descriptor. -/
  | refusedShape (d : Descriptor)
  /-- A reserved field set; the descriptor. -/
  | refusedNonCanonical (d : Descriptor)
  /-- Create under resource exhaustion. -/
  | createFailed
  deriving DecidableEq, Repr

/-- The code of an outcome (R187). -/
def StepOutcome.code : StepOutcome → Nat
  | .done _ => 0
  | .notApplied _ => 1
  | .notDelivered _ => 2
  | .refusedShape _ => 3
  | .refusedNonCanonical _ => 4
  | .createFailed => 5

/-- The outcome as the bus and the host see it: `NotApplied` is dropped, and the write completes (R125, R152, R187). -/
def StepOutcome.onBus : StepOutcome → StepOutcome
  | .done value => .done value
  | .notApplied _ => .done none
  | .notDelivered A => .notDelivered A
  | .refusedShape d => .refusedShape d
  | .refusedNonCanonical d => .refusedNonCanonical d
  | .createFailed => .createFailed

/-- The outcome a next state's `last` records. -/
def Result.outcome : Result → StepOutcome
  | .done => .done none
  | .readByte r => .done (some (.byte r))
  | .readWord r => .done (some (.word r))
  | .notDelivered A => .notDelivered A
  | .createFailed => .createFailed

/-- The outcome of a refusal; a breach of the host's duties (I21, I25) is none of R187's. -/
def Refusal.outcome : Refusal → Option StepOutcome
  | .noSuchShape d => some (.refusedShape d)
  | .nonCanonical d => some (.refusedNonCanonical d)
  | _ => none

/-- The outcome by which a step ends. -/
def outcomeOf : Host.Outcome State Fault Refusal → Option StepOutcome
  | .next s => some s.last.outcome
  | .fault r => nomatch r
  | .refused r => r.outcome

/-- The outcome of `WriteReg(n, v)`: `NotApplied` with the index when `applied` is false (R116, R187). -/
def writeOutcome (n : Byte) (v : Slot) (s : State) : StepOutcome :=
  if (writeReg n v s).1 then .done none else .notApplied (idx n)

/-- The outcome of a delivered transaction by its own rule (R141 to R146, R187). -/
def requestOutcome (r : Request) (s : State) : StepOutcome :=
  match r with
  | .rdb => .done (some (.byte (lowByte (readReg s.sel s))))
  | .rdbc n => .done (some (.byte (lowByte (readReg n s))))
  | .rdwc n => .done (some (.word (readReg n s)))
  | .wrs _ => .done none
  | .wrbc n v => writeOutcome n (zext16 v) s
  | .wrwc n v => writeOutcome n v s

/-- The outcome of a transaction `(A, d)`: the first that applies of the shape, the canonical form, delivery, and the
transaction's own rule (R191). -/
def transactionOutcome (A : BusAddress) (d : Descriptor) (s : State) : StepOutcome :=
  match decode d with
  | .error .noSuchShape => .refusedShape d
  | .error .nonCanonical => .refusedNonCanonical d
  | .ok i => if s.answers A then requestOutcome i.request s else .notDelivered A

end Sys2Proof.Machine
end

