-- ==== Sys2Proof/Machine/Platform.lean ====
section
/-! DEFINITION. Several chips on one bus (R153, R199): a list of machines, each with all of its own state, a list of sensor
sources that they read, one each or shared, and one step that routes the host's event to one chip. -/

namespace Sys2Proof.Machine

/-- One chip of a platform and the sensor source it reads. -/
structure Attached where
  /-- The number of the source: two chips with one number share a source (R153, R199). -/
  source : Nat
  /-- The chip. Its `sensors` are what it saw of the source at its last step, and its `pending` is not used here. -/
  state : State
  deriving DecidableEq, Repr

/-- The sources and chips of a platform; a source's or chip's number is its place in its list. -/
structure Platform where
  /-- The sensor-value sources (R33), written by the host alone (R196, R199). -/
  sources : List Sensors
  /-- The chips, in the order they were attached (R199: no order among them has a meaning). -/
  chips : List Attached
  /-- The outcome of the last step (R187). -/
  last : Result
  deriving DecidableEq, Repr

/-- What the host can do to a platform. -/
inductive PlatformEvent where
  /-- Provide one more sensor source (R215). -/
  | provide (readings : Sensors)
  /-- Provide the parameters of one more chip, not created yet, and name the source it reads (R153, R215). -/
  | attach (params : Params) (source : Nat)
  /-- Deliver the transaction `(A, d)` to whichever chip is bound at `A` (R70, R140). -/
  | transact (A : BusAddress) (d : Descriptor)
  /-- Call a host operation on chip `k` (R172). A sensor update is to the source the chip reads. -/
  | call (k : Nat) (op : HostOp)
  deriving DecidableEq, Repr

/-- Why a platform step has no next state. -/
inductive PlatformRefusal where
  /-- The chip's own refusal. Safe. -/
  | chip (r : Refusal)
  /-- A second chip would be bound at an occupied address; `P_SHARED_ADDRESS` is OPEN and a model that does not take it
  refuses the bind (I15, D26; log 13). Safe: the run stops. -/
  | sharedAddress (a : Byte)
  /-- The host names a chip that was never attached. Safe: there is no such chip. -/
  | noSuchChip (k : Nat)
  /-- The host names a source that was never provided. Safe: there is no such source (R215). -/
  | noSuchSource (j : Nat)
  /-- The host provides a source that holds a reading outside its domain (R215, I25; log 7). Safe: the host never does it. -/
  | sourceOutOfDomain
  deriving DecidableEq, Repr

/-- The outcomes of a platform step. -/
abbrev PlatformOutcome := Host.Outcome Platform Fault PlatformRefusal

/-- The chip as its next step finds it: it reads the readings its source holds at that moment (R33). -/
def Platform.view (p : Platform) (c : Attached) : State :=
  { c.state with sensors := p.sources.getD c.source c.state.sensors }

/-- Chip `k`, attached as `c`, has stepped to `t`: no other chip changes, and the readings `t` holds are those of `c`'s
source, for every chip that reads it. -/
def Platform.stepped (p : Platform) (k : Nat) (c : Attached) (t : State) : Platform where
  sources := p.sources.set c.source t.sensors
  chips := p.chips.set k { c with state := t }
  last := t.last

/-- Run `f` on chip `k` alone. -/
def Platform.onChip (p : Platform) (k : Nat) (f : State → Host.Outcome State Fault Refusal) : PlatformOutcome :=
  match p.chips[k]? with
  | none => .refused (.noSuchChip k)
  | some c =>
    match f (p.view c) with
    | .next t => .next (p.stepped k c t)
    | .fault r => .fault r
    | .refused r => .refused (.chip r)

/-- The bus address a host operation would bind its chip at, if any (R147, R165). -/
def HostOp.bindsAt : HostOp → Option Byte
  | .create config fails => if fails then none else some (config &&& 0x7F)
  | .destroy => none
  | .remap a => if a < 0x80 then some a else none
  | .sensor _ => none

/-- A chip other than number `k` is live at address `a`. -/
def Platform.occupied (p : Platform) (k : Nat) (a : Byte) : Bool :=
  (List.range p.chips.length).any fun j =>
    j != k && (p.chips[j]?).any fun c => c.state.life = .live && c.state.bus = a

/-- The operation would bind chip `k` where another chip is (I15). -/
def Platform.clash (p : Platform) (k : Nat) (op : HostOp) : Option Byte :=
  op.bindsAt.filter (p.occupied k)

/-- Provide a source, its readings in their domains (R215). -/
def Platform.provide (p : Platform) (readings : Sensors) : PlatformOutcome :=
  if readings.WellFormed then .next { p with sources := p.sources ++ [readings], last := .done }
  else .refused .sourceOutOfDomain

/-- Attach one more chip, not created yet, that reads source `j` (R153, R215). -/
def Platform.attach (p : Platform) (params : Params) (j : Nat) : PlatformOutcome :=
  match p.sources[j]? with
  | none => .refused (.noSuchSource j)
  | some S => .next { p with chips := p.chips ++ [⟨j, State.uncreated params S⟩], last := .done }

/-- Route a transaction to the chip that answers it, after decoding it (R140, R191). -/
def Platform.transact (p : Platform) (A : BusAddress) (d : Descriptor) : PlatformOutcome :=
  match decode d with
  | .error .noSuchShape => .refused (.chip (.noSuchShape d))
  | .error .nonCanonical => .refused (.chip (.nonCanonical d))
  | .ok i =>
    match p.chips.findIdx? (fun c => c.state.answers A) with
    | none => .next { p with last := .notDelivered A }
    | some k => p.onChip k (exec i)

/-- A host operation on chip `k`, unless it would bind a second chip at one address. -/
def Platform.call (p : Platform) (k : Nat) (op : HostOp) : PlatformOutcome :=
  match p.clash k op with
  | some a => .refused (.sharedAddress a)
  | none => p.onChip k (callHost op)

/-- One step of the platform. -/
def Platform.step (p : Platform) (e : PlatformEvent) : PlatformOutcome :=
  match e with
  | .provide readings => p.provide readings
  | .attach params j => p.attach params j
  | .transact A d => p.transact A d
  | .call k op => p.call k op

end Sys2Proof.Machine
end

