-- ==== Sys2Proof/Safety.lean ====
section
/-! DEFINITION. The terms claims are made in: the invariant of R41 and R40, what an observer sees (R14), which states look
alike to it (R39), and when a platform's chips are apart. -/

namespace Sys2Proof

open Sys2Proof.Machine

/-- The register number and the 16-bit value of a write with a command byte: those of `WRWC.ii`, and of `WRBC.ii` with its
byte zero-extended (R75). -/
def Instr.writeOperands (i : Instr) : Option (Byte × Slot) :=
  match i.request with
  | .wrbc n v => some (n, zext16 v)
  | .wrwc n v => some (n, v)
  | .rdb => none
  | .rdbc _ => none
  | .rdwc _ => none
  | .wrs _ => none

/-- The transaction is one of the three reads: `RDB`, `RDBC.ii`, `RDWC.ii`. -/
def Instr.isRead (i : Instr) : Bool :=
  match i.request with
  | .rdb => true
  | .rdbc _ => true
  | .rdwc _ => true
  | .wrs _ => false
  | .wrbc _ _ => false
  | .wrwc _ _ => false

end Sys2Proof

namespace Sys2Proof.Machine

/-- What the slots of a live chip satisfy in every state (R40, R41, R126, R189). -/
structure State.SlotsConsistent (s : State) : Prop where
  /-- Slot 0x03: bits 15:8, 7 and 1:0 are 0. -/
  configuration : readSlot s.regs 0x03 &&& 0xFF83 = 0
  /-- Slot 0x0F: bits 15:8 and 2:0 are 0. -/
  divisors : readSlot s.regs 0x0F &&& 0xFF07 = 0
  /-- Slot 0x11: bits 15:7 are 0. -/
  slot11 : readSlot s.regs 0x11 &&& 0xFF80 = 0
  /-- Slot 0x07 never reflects a stale divisor: it encodes the fan readings of the last reset or 0x0F write under the
  divisors slot 0x0F holds now. -/
  fans : readSlot s.regs 0x07 = fanSlot (readSlot s.regs 0x0F) s.fanSnapshot.1 s.fanSnapshot.2
  /-- Slot 0x04 encodes the temperature of the last reset. -/
  temperature : readSlot s.regs 0x04 = toSlot (tempToReg s.snapshot.temp0)
  /-- Slot 0x14 encodes rail 0 of the last reset. -/
  rail0 : readSlot s.regs 0x14 = toSlot (cal (voltageToReg s.snapshot.volt0))
  /-- Slot 0x13 encodes rail 1 of the last reset, or mirrors the low byte of slot 0x0A. -/
  rail1 : readSlot s.regs 0x13 = toSlot (cal (voltageToReg s.snapshot.volt1)) ∨
    readSlot s.regs 0x13 = readSlot s.regs 0x0A &&& 0xFF
  /-- Slot 0x0D encodes rail 2 of the last reset. -/
  rail2 : readSlot s.regs 0x0D = toSlot (cal (voltageToReg s.snapshot.volt2))
  /-- Slot 0x15 encodes the nominal 5.00 V rail. -/
  vdd : readSlot s.regs 0x15 = 0x00DF
  /-- Slot 0x12 is 0. -/
  slot12 : readSlot s.regs 0x12 = 0
  /-- Slots 0x00 and 0x01 are the parameters. -/
  identity : readSlot s.regs 0x00 = s.params.chipId ∧ readSlot s.regs 0x01 = s.params.revision

/-- The invariant of the machine. -/
structure State.Inv (s : State) : Prop where
  /-- The parameters satisfy their constraints (D10, D14). -/
  paramsOk : s.params.WellFormed = true
  /-- The readings are in their domains (D13). -/
  sensorsOk : s.sensors.WellFormed = true
  /-- So are those the slots were last computed from. -/
  snapshotOk : s.snapshot.WellFormed = true
  fanSnapshotOk : s.fanSnapshot.1 ≤ readingMax ∧ s.fanSnapshot.2 ≤ readingMax
  /-- A chip that is not live is unbound (R165, R168). -/
  unbound : s.life ≠ .live → s.bound = false
  /-- The slots of a live chip are consistent. -/
  slotsOk : s.life = .live → s.SlotsConsistent

/-- The result of a step is a value returned by a read (R14). -/
def Result.isRead : Result → Bool
  | .readByte _ => true
  | .readWord _ => true
  | .done => false
  | .notDelivered _ => false
  | .createFailed => false

/-- What a run of `k` steps lets an observer see: the values its delivered reads return, in order (R14). A step with
nothing pending returns nothing. -/
def observations : Nat → State → List Result
  | 0, _ => []
  | k + 1, s =>
    match step s with
    | .next s' => (if s.pending ≠ [] ∧ s'.last.isRead then [s'.last] else []) ++ observations k s'
    | .fault _ => []
    | .refused _ => []

/-- Two states that differ only in the hidden state of R39 (bits 15:8 of the slots outside the two-byte set, bits 7:5 of
`sel`, the phase) and in the ghost fields. -/
structure SameView (s t : State) : Prop where
  slots : ∀ i, shape i (readSlot s.regs i) = shape i (readSlot t.regs i)
  selected : idx s.sel = idx t.sel
  bus : s.bus = t.bus
  life : s.life = t.life
  sensors : s.sensors = t.sensors
  params : s.params = t.params
  pending : s.pending = t.pending
  last : s.last = t.last

/-- No two live chips of a platform are bound at one address (R65, R153). -/
def Platform.Apart (p : Platform) : Prop :=
  ∀ (j k : Nat) (c e : Attached), p.chips[j]? = some c → p.chips[k]? = some e →
    c.state.life = .live → e.state.life = .live → c.state.bound = true → c.state.bus = e.state.bus → j = k

end Sys2Proof.Machine
end

