-- ==== Sys2Proof/Certificates/Slice0/Obligations.lean ====
section
/-! DEFINITION. The statements about the machine, from the numbered rules of spec/. Each docstring names the rules it
formalises, and where a clause is a decision of the spec (D<n>) or of the model (log <n>). -/

open Sys2Proof Sys2Proof.Machine

/-! ### Encoding -/

/-- Words written out from the layout of R71 decode to the instructions they stand for; the layout is D1. -/
def Obligations.WrittenOutWordsDecode : Prop :=
  decode 0x00000000 = .ok .rdb ∧
  decode 0x80000007 = .ok (.wrs 0x07) ∧
  decode 0x40290000 = .ok (.rdbc09 1) ∧
  decode 0x60040000 = .ok (.rdwc04 0) ∧
  decode 0xC00F0040 = .ok (.wrbc0F 0 0x40) ∧
  decode 0xE02A5678 = .ok (.wrwc0A 1 0x5678)

/-- Decoding the encoding of an instruction gives it back, for every row and every operand; the layout is D1. -/
def Obligations.DecodeOfEncodeIsTheInstruction : Prop :=
  ∀ i : Instr, i.WellFormed = true ∧ decode (encode i) = .ok i

/-- A descriptor that decodes is the encoding of what it decodes to: no bit is ignored; the layout is D1. -/
def Obligations.EncodeOfDecodeIsTheDescriptor : Prop :=
  ∀ (d : Descriptor) (i : Instr), decode d = .ok i → encode i = d

/-- Which descriptors are refused, and by which name (R72, R79, R81; D19): wide without a command byte is no shape; any
other descriptor with a reserved or unused field set is not canonical; every other one decodes. -/
def Obligations.RefusedDescriptorsAreExactlyTheMalformed : Prop :=
  ∀ d : Descriptor,
    (decode d = .error .noSuchShape ↔ d.getLsbD 29 = true ∧ d.getLsbD 30 = false) ∧
    (decode d = .error .nonCanonical ↔
      ¬ (d.getLsbD 29 = true ∧ d.getLsbD 30 = false) ∧
      (d.extractLsb' 24 5 ≠ 0 ∨
       (d.getLsbD 30 = false ∧ d.extractLsb' 16 8 ≠ 0) ∨
       (d.getLsbD 31 = false ∧ d.extractLsb' 0 16 ≠ 0) ∨
       (d.getLsbD 31 = true ∧ d.getLsbD 29 = false ∧ d.extractLsb' 8 8 ≠ 0)))

/-- Decoding agrees with the row patterns of the opcode table: a descriptor decodes to an instruction of the row it
matches, and it matches the row of what it decodes to (R78; D1). -/
def Obligations.DecodingAgreesWithTheRowPatterns : Prop :=
  ∀ d : Descriptor,
    (∀ i : Instr, decode d = .ok i → d &&& i.rowMask = i.rowMatch) ∧
    (∀ i : Instr, d &&& i.rowMask = i.rowMatch →
      ∃ j : Instr, decode d = .ok j ∧ j.rowMask = i.rowMask ∧ j.rowMatch = i.rowMatch)

/-- A transaction line with its operands in range assembles to the packed descriptor of its operands, and one with an
operand out of range is an error (R84; D23). -/
def Obligations.TransactionLinesAssemble : Prop :=
  ∀ (f : Bool) (A n v : Nat),
    ((Line.rdb A).assemble f =
      if A < 0x80 then .ok (.transact (BitVec.ofNat 7 A) (encodeRequest .rdb)) else .error .operandOutOfRange) ∧
    ((Line.rdbc A n).assemble f =
      if A < 0x80 ∧ n < 0x100 then .ok (.transact (BitVec.ofNat 7 A) (encodeRequest (.rdbc (BitVec.ofNat 8 n))))
      else .error .operandOutOfRange) ∧
    ((Line.rdwc A n).assemble f =
      if A < 0x80 ∧ n < 0x100 then .ok (.transact (BitVec.ofNat 7 A) (encodeRequest (.rdwc (BitVec.ofNat 8 n))))
      else .error .operandOutOfRange) ∧
    ((Line.wrs A v).assemble f =
      if A < 0x80 ∧ v < 0x100 then .ok (.transact (BitVec.ofNat 7 A) (encodeRequest (.wrs (BitVec.ofNat 8 v))))
      else .error .operandOutOfRange) ∧
    ((Line.wrbc A n v).assemble f =
      if A < 0x80 ∧ n < 0x100 ∧ v < 0x100 then
        .ok (.transact (BitVec.ofNat 7 A) (encodeRequest (.wrbc (BitVec.ofNat 8 n) (BitVec.ofNat 8 v))))
      else .error .operandOutOfRange) ∧
    ((Line.wrwc A n v).assemble f =
      if A < 0x80 ∧ n < 0x100 ∧ v < 0x10000 then
        .ok (.transact (BitVec.ofNat 7 A) (encodeRequest (.wrwc (BitVec.ofNat 8 n) (BitVec.ofNat 16 v))))
      else .error .operandOutOfRange)

/-! ### The step -/

/-- A step whose oldest event is a transaction to this chip's address, with a descriptor that decodes, is the meaning of the
decoded instruction on the state without that event (R70, R140; the event queue is log 5). -/
def Obligations.StepRunsTheDecodedInstruction : Prop :=
  ∀ (s : State) (A : BusAddress) (d : Descriptor) (i : Instr) (rest : List Event),
    s.pending = .transact A d :: rest → decode d = .ok i →
    s.life = .live → s.bus.toNat < 0x80 → A.toNat = s.bus.toNat →
    step s = exec i { s with pending := rest }

/-- A transaction that is not this chip's (not live, not bound, or another address) changes nothing of the chip and the
outcome names the address (R140, R187; D25, D32). -/
def Obligations.UndeliveredTransactionChangesNothing : Prop :=
  ∀ (s : State) (A : BusAddress) (d : Descriptor) (i : Instr) (rest : List Event),
    s.pending = .transact A d :: rest → decode d = .ok i →
    (s.life ≠ .live ∨ s.bus.toNat ≥ 0x80 ∨ A.toNat ≠ s.bus.toNat) →
    step s = .next { s with pending := rest, last := .notDelivered A }

/-- A malformed descriptor is refused whatever its address and whatever the chip's state, and every transaction ends with
the outcome of R187 that the order of R191 picks, `NotApplied` dropped on the bus; the six outcomes have the codes 0 to 5
(D19, D32). -/
def Obligations.MalformedDescriptorIsRefusedFirst : Prop :=
  (∀ (s : State) (A : BusAddress) (d : Descriptor) (rest : List Event), s.pending = .transact A d :: rest →
    (decode d = .error .noSuchShape → step s = .refused (.noSuchShape d)) ∧
    (decode d = .error .nonCanonical → step s = .refused (.nonCanonical d))) ∧
  (∀ (s : State) (A : BusAddress) (d : Descriptor),
    outcomeOf (transact A d s) = some (transactionOutcome A d s).onBus) ∧
  (∀ (value : Option ReadValue) (i : Index) (A : BusAddress) (d : Descriptor),
    [StepOutcome.done value, .notApplied i, .notDelivered A, .refusedShape d, .refusedNonCanonical d, .createFailed].map
      StepOutcome.code = [0, 1, 2, 3, 4, 5])

/-- With no event pending a step changes nothing (R27), and a pending host operation is carried out on the state without
it (R172). The event queue is the model's (log 5). -/
def Obligations.StepCarriesOutHostOperations : Prop :=
  (∀ s : State, s.pending = [] → step s = .next s) ∧
  (∀ (s : State) (op : HostOp) (rest : List Event), s.pending = .host op :: rest →
    step s = callHost op { s with pending := rest })

/-- Every read returns a value and every write completes without one, whatever register it names: no instruction faults
or is refused, and the `applied` result never shows (R152). -/
def Obligations.EveryTransactionCompletes : Prop :=
  ∀ (i : Instr) (s : State), ∃ t : State, exec i s = .next t ∧
    (i.isRead = true → t.last.isRead = true) ∧ (i.isRead = false → t.last = .done)

/-! ### Reads and the selection -/

/-- `RDB` (constructor rdb) returns bits 7:0 of the shaped slot that `sel` names and changes nothing else (R141; the low
byte is D4, the kept phase D18). -/
def Obligations.RdbReturnsTheSelectedLowByte : Prop :=
  ∀ s : State, exec .rdb s =
    .next { s with last := .readByte (lowByte (shape (idx s.sel) (readSlot s.regs (idx s.sel)))) }

/-- `RDBC.00` to `RDBC.1F` (constructors rdbc00 to rdbc1F) return bits 7:0 of the shaped slot and write the phase alone
(R142; the low byte is D4). -/
def Obligations.RdbcReturnsTheLowByte : Prop :=
  ∀ (i : Instr) (n : Byte) (s : State), i.request = .rdbc n →
    exec i s = .next { s with
      phase := .noPendingSelection
      last := .readByte (lowByte (shape (idx n) (readSlot s.regs (idx n)))) }

/-- `RDWC.00` to `RDWC.1F` (constructors rdwc00 to rdwc1F), the descriptors `0x60000000 | n << 16`, return the 16-bit shaped
slot and write the phase alone (R143). -/
def Obligations.RdwcReturnsTheShapedWord : Prop :=
  ∀ (i : Instr) (n : Byte) (s : State), i.request = .rdwc n →
    encode i = (0x60000000 : Descriptor) ||| (n.setWidth 32 <<< 16) ∧
    exec i s = .next { s with
      phase := .noPendingSelection
      last := .readWord (shape (idx n) (readSlot s.regs (idx n))) }

/-- `WRS` (constructor wrs), the descriptors `0x80000000 | v`, sets `sel` to all 8 bits and the phase, and touches no slot
(R144). -/
def Obligations.WrsSetsTheSelection : Prop :=
  ∀ (v : Byte) (s : State),
    encode (.wrs v) = (0x80000000 : Descriptor) ||| v.setWidth 32 ∧
    exec (.wrs v) s = .next { s with sel := v, phase := .selectionPending, last := .done }

/-- A read outside the two-byte set has the stored low byte in both halves, and a read inside it is the stored value
(R113). -/
def Obligations.ReadShapingDuplicatesTheLowByte : Prop :=
  ∀ (n : Byte) (s : State),
    (idx n ∈ ([0x07, 0x08, 0x09, 0x0A, 0x0B, 0x0C] : List Index) → readReg n s = readSlot s.regs (idx n)) ∧
    (idx n ∉ ([0x07, 0x08, 0x09, 0x0A, 0x0B, 0x0C] : List Index) →
      lowByte (readReg n s) = lowByte (readSlot s.regs (idx n)) ∧
      highByte (readReg n s) = lowByte (readSlot s.regs (idx n)))

/-- A register number names the slot of its low 5 bits, and is never rejected: two numbers equal modulo 32 read and write
alike (R22, R110; masking before classification is D2). -/
def Obligations.AliasedNumbersBehaveAlike : Prop :=
  ∀ (n m : Byte) (v : Slot) (s : State), n.toNat % 32 = m.toNat % 32 →
    (idx n).toNat = n.toNat % 32 ∧ readReg n s = readReg m s ∧ writeReg n v s = writeReg m v s

/-! ### WriteReg, class by class -/

/-- A write to a read-only index writes no state and is not applied (R117). -/
def Obligations.WriteRegIgnoresReadOnly : Prop :=
  ∀ (n : Byte) (v : Slot) (s : State),
    idx n ∈ ([0x00, 0x01, 0x04, 0x07, 0x0D, 0x12, 0x13, 0x14, 0x15] : List Index) → writeReg n v s = (false, s)

/-- A write to 0x0A stores the value there and its low byte, zero-extended, in 0x13, and nothing else (R118). -/
def Obligations.WriteRegMirrors0A : Prop :=
  ∀ (n : Byte) (v : Slot) (s : State), idx n = 0x0A →
    writeReg n v s = (true, { s with regs := writeSlot (writeSlot s.regs 0x13 (v &&& 0xFF)) 0x0A v })

/-- A write to 0x03 stores `v & 0xFC` unless bit 7 of the incoming value is set, and is then a reset from the current
readings; the selection, the address, the phase and the lifecycle stay (R119). -/
def Obligations.WriteRegResetTrigger : Prop :=
  ∀ (n : Byte) (v : Slot) (s : State), idx n = 0x03 → ∃ t : State, writeReg n v s = (true, t) ∧
    t.regs = (if v.getLsbD 7 then resetSlots s.params s.sensors else writeSlot s.regs 0x03 (v &&& 0xFC)) ∧
    t.sel = s.sel ∧ t.bus = s.bus ∧ t.phase = s.phase ∧ t.life = s.life ∧ t.sensors = s.sensors

/-- A write to 0x0F stores `v & 0xF8` and rewrites 0x07 from the fan readings of this step under the divisors `2^n` of
the value's bits 7:6 and 5:4 (R120). -/
def Obligations.WriteRegRecomputesFans : Prop :=
  ∀ (n : Byte) (v : Slot) (s : State), idx n = 0x0F → ∃ t : State, writeReg n v s = (true, t) ∧
    t.regs = writeSlot (writeSlot s.regs 0x0F (v &&& 0xF8)) 0x07
      (toSlot (fanPack s.sensors.fan0 (2 ^ (v.extractLsb' 6 2).toNat) s.sensors.fan1 (2 ^ (v.extractLsb' 4 2).toNat))) ∧
    t.sel = s.sel ∧ t.bus = s.bus ∧ t.phase = s.phase ∧ t.life = s.life ∧ t.sensors = s.sensors

/-- A write to 0x11 stores `v & 0x7F` and nothing else (R121). -/
def Obligations.WriteRegMasks11 : Prop :=
  ∀ (n : Byte) (v : Slot) (s : State), idx n = 0x11 →
    writeReg n v s = (true, { s with regs := writeSlot s.regs 0x11 (v &&& 0x7F) })

/-- A write to any other index stores the value verbatim and nothing else (R122). -/
def Obligations.WriteRegVerbatim : Prop :=
  ∀ (n : Byte) (v : Slot) (s : State),
    idx n ∉ ([0x00, 0x01, 0x04, 0x07, 0x0D, 0x12, 0x13, 0x14, 0x15, 0x0A, 0x03, 0x0F, 0x11] : List Index) →
    writeReg n v s = (true, { s with regs := writeSlot s.regs (idx n) v })

/-! ### The writes with a command byte, class by class -/

/-- `WRBC.ii` and `WRWC.ii` for ii in 00 01 04 07 0D 12 13 14 15 (constructors wrbc00, wrwc00 and so on) complete, change
the phase and store nothing (R117, R145, R146; the byte form is D3). Inside, the outcome of `WriteReg` is `NotApplied` with
the index for exactly these indices (R187, D32). -/
def Obligations.ReadOnlyWritesComplete : Prop :=
  (∀ (i : Instr) (n : Byte) (v : Slot) (s : State), i.writeOperands = some (n, v) →
    idx n ∈ ([0x00, 0x01, 0x04, 0x07, 0x0D, 0x12, 0x13, 0x14, 0x15] : List Index) →
    exec i s = .next { s with phase := .noPendingSelection, last := .done }) ∧
  (∀ (n : Byte) (v : Slot) (s : State), writeOutcome n v s =
    if idx n ∈ ([0x00, 0x01, 0x04, 0x07, 0x0D, 0x12, 0x13, 0x14, 0x15] : List Index) then .notApplied (idx n)
    else .done none)

/-- `WRBC.0A` and `WRWC.0A` (constructors wrbc0A, wrwc0A) store the value in 0x0A and its low byte in 0x13 (R118, R145,
R146; the byte form is D3). -/
def Obligations.MirrorWritesComplete : Prop :=
  ∀ (i : Instr) (n : Byte) (v : Slot) (s : State), i.writeOperands = some (n, v) → idx n = 0x0A →
    exec i s = .next { s with
      regs := writeSlot (writeSlot s.regs 0x13 (v &&& 0xFF)) 0x0A v
      phase := .noPendingSelection
      last := .done }

/-- `WRBC.03` and `WRWC.03` (constructors wrbc03, wrwc03) store `v & 0xFC` when bit 7 is 0, and otherwise reset every slot
from the current readings (R119, R145, R146; the byte form is D3, the ghost fields are log 11). -/
def Obligations.ConfigurationWritesComplete : Prop :=
  ∀ (i : Instr) (n : Byte) (v : Slot) (s : State), i.writeOperands = some (n, v) → idx n = 0x03 →
    exec i s =
      if v.getLsbD 7 then
        .next { s with
          regs := resetSlots s.params s.sensors
          snapshot := s.sensors
          fanSnapshot := (s.sensors.fan0, s.sensors.fan1)
          phase := .noPendingSelection
          last := .done }
      else
        .next { s with
          regs := writeSlot s.regs 0x03 (v &&& 0xFC)
          phase := .noPendingSelection
          last := .done }

/-- `WRBC.0F` and `WRWC.0F` (constructors wrbc0F, wrwc0F) store `v & 0xF8` and recompute 0x07 (R120, R145, R146; the byte
form is D3, the ghost field is log 11). -/
def Obligations.DivisorWritesComplete : Prop :=
  ∀ (i : Instr) (n : Byte) (v : Slot) (s : State), i.writeOperands = some (n, v) → idx n = 0x0F →
    exec i s = .next { s with
      regs := writeSlot (writeSlot s.regs 0x0F (v &&& 0xF8)) 0x07
        (toSlot (fanPack s.sensors.fan0 (2 ^ (v.extractLsb' 6 2).toNat) s.sensors.fan1 (2 ^ (v.extractLsb' 4 2).toNat)))
      fanSnapshot := (s.sensors.fan0, s.sensors.fan1)
      phase := .noPendingSelection
      last := .done }

/-- `WRBC.11` and `WRWC.11` (constructors wrbc11, wrwc11) store `v & 0x7F` (R121, R145, R146; the byte form is D3). -/
def Obligations.MaskedWritesComplete : Prop :=
  ∀ (i : Instr) (n : Byte) (v : Slot) (s : State), i.writeOperands = some (n, v) → idx n = 0x11 →
    exec i s = .next { s with
      regs := writeSlot s.regs 0x11 (v &&& 0x7F)
      phase := .noPendingSelection
      last := .done }

/-- `WRBC.ii` and `WRWC.ii` for ii in 02 05 06 08 09 0B 0C 0E 10 and 16 to 1F (constructors wrbc02, wrwc02 and so on) store
the value verbatim (R122, R145, R146; the byte form is D3). -/
def Obligations.VerbatimWritesComplete : Prop :=
  ∀ (i : Instr) (n : Byte) (v : Slot) (s : State), i.writeOperands = some (n, v) →
    idx n ∈ ([0x02, 0x05, 0x06, 0x08, 0x09, 0x0B, 0x0C, 0x0E, 0x10, 0x16, 0x17, 0x18, 0x19, 0x1A, 0x1B, 0x1C, 0x1D,
      0x1E, 0x1F] : List Index) →
    exec i s = .next { s with
      regs := writeSlot s.regs (idx n) v
      phase := .noPendingSelection
      last := .done }

/-! ### Frames -/

/-- No transaction changes the bus address, the lifecycle, the sensor source, the parameters or the host's pending events
(R149, R196; D20). -/
def Obligations.TransactionsLeaveTheHostSideAlone : Prop :=
  ∀ (i : Instr) (s t : State), exec i s = .next t →
    t.bus = s.bus ∧ t.life = s.life ∧ t.sensors = s.sensors ∧ t.params = s.params ∧ t.pending = s.pending

/-- `sel` is written by `WRS` alone among the transactions: reads and writes with a command byte, a resetting one too, keep
it, as `WriteReg` itself does (R123). -/
def Obligations.OnlyWrsWritesTheSelection : Prop :=
  (∀ (i : Instr) (s t : State), exec i s = .next t → (∀ v, i ≠ .wrs v) → t.sel = s.sel) ∧
  (∀ (n : Byte) (v : Slot) (s : State), (writeReg n v s).2.sel = s.sel)

/-- A read, of any shape, writes no slot, not `sel` and not `bus` (R60, an inference the spec marks as its own, from R114 and
R141 to R143); nor a ghost field, which is the model's own (log 11). -/
def Obligations.ReadsWriteNoSlot : Prop :=
  ∀ (i : Instr) (s t : State), i.isRead = true → exec i s = .next t →
    (∀ j, readSlot t.regs j = readSlot s.regs j) ∧ t.sel = s.sel ∧ t.bus = s.bus ∧
    t.snapshot = s.snapshot ∧ t.fanSnapshot = s.fanSnapshot

/-- A write with a command byte changes its own slot alone, but for the mirror of 0x0A into 0x13, the recompute of 0x07 by
0x0F, and a resetting write to 0x03 (R61, an inference the spec marks as its own). -/
def Obligations.WritesChangeOnlyTheirSlots : Prop :=
  ∀ (i : Instr) (n : Byte) (v : Slot) (s t : State) (j : Index),
    i.writeOperands = some (n, v) → exec i s = .next t →
    j ≠ idx n → ¬ (idx n = 0x0A ∧ j = 0x13) → ¬ (idx n = 0x0F ∧ j = 0x07) → ¬ (idx n = 0x03 ∧ v.getLsbD 7 = true) →
    readSlot t.regs j = readSlot s.regs j

/-- The phase after a transaction: a selection is pending after `WRS`, none after a transaction with a command byte, and
`RDB` keeps it (R25, R150; what `RDB` does is D18). -/
def Obligations.PhaseFollowsTheTransaction : Prop :=
  ∀ (i : Instr) (s t : State), exec i s = .next t →
    t.phase = match i.request with
      | .rdb => s.phase
      | .wrs _ => .selectionPending
      | .rdbc _ => .noPendingSelection
      | .rdwc _ => .noPendingSelection
      | .wrbc _ _ => .noPendingSelection
      | .wrwc _ _ => .noPendingSelection

/-! ### Unit conversion -/

/-- `rpm_to_reg`: 0 exactly for a stopped fan, else the quotient clamped to 1 and 255, with the corner cases of R91; within
the domains the quotient is 0 only under divisor 8. -/
def Obligations.FanCountIsClamped : Prop :=
  ∀ rpm d : Nat, 1 ≤ d →
    (rpmToReg rpm d = 0 ↔ rpm = 0) ∧
    (1 ≤ rpm → rpmToReg rpm d = max 1 (min 255 (480000 / (rpm * d)))) ∧
    (1 ≤ rpm → rpm * d ≤ 1882 → rpmToReg rpm d = 255) ∧
    (rpm * d > 480000 → rpmToReg rpm d = 1) ∧
    (rpm ≤ readingMax → d ∈ [1, 2, 4, 8] → rpm * d > 480000 → d = 8 ∧ 60001 ≤ rpm)

/-- The closed form of the fan table: which products `rpm * d` give each count (40_conversion.md, from R91). -/
def Obligations.FanCountClosedForm : Prop :=
  ∀ rpm d : Nat, 1 ≤ rpm → 1 ≤ d →
    (rpmToReg rpm d = 255 ↔ rpm * d ≤ 1882) ∧
    (rpmToReg rpm d = 1 ↔ rpm * d > 240000) ∧
    (∀ k, 2 ≤ k → k ≤ 254 → (rpmToReg rpm d = k ↔ 480000 / (k + 1) < rpm * d ∧ rpm * d ≤ 480000 / k))

/-- `temp_to_reg` is `t + 119` modulo 256, a byte, of period 256, and one to one from -119 to 136 onto 0 to 255 (R93). -/
def Obligations.TemperatureWrapsModulo256 : Prop :=
  ∀ t : Int,
    ((tempToReg t : Int) - (t + 119)) % 256 = 0 ∧ tempToReg t < 256 ∧ tempToReg (t + 256) = tempToReg t ∧
    (-119 ≤ t → t ≤ 136 → (tempToReg t : Int) = t + 119)

/-- `voltage_to_reg` is the truncated quotient by 19 below 4864 mV and repeats from there (R94). -/
def Obligations.VoltageTruncatesAndWraps : Prop :=
  ∀ v : Nat,
    voltageToReg v < 256 ∧ (v < 4864 → voltageToReg v = v / 19) ∧ voltageToReg (v + 4864) = voltageToReg v

/-- `vdd_to_reg` is the truncated quotient of four times the voltage by 95 below 6080 mV, repeats from there, and is 210 at
the one argument used (R95). -/
def Obligations.SupplyTruncatesAndWraps : Prop :=
  (∀ v : Nat, vddToReg v < 256 ∧ (v < 6080 → vddToReg v = v * 4 / 95) ∧ vddToReg (v + 6080) = vddToReg v) ∧
  vddToReg nominalVdd = 210

/-- The calibrated encodings lie in 13 to 268 and are stored whole, bit 8 too (R96; not truncating is D12). -/
def Obligations.CalibrationIsStoredUntruncated : Prop :=
  ∀ v : Nat,
    13 ≤ cal (voltageToReg v) ∧ cal (voltageToReg v) ≤ 268 ∧ 13 ≤ cal (vddToReg v) ∧ cal (vddToReg v) ≤ 268 ∧
    (toSlot (cal (voltageToReg v))).toNat = voltageToReg v + 13 ∧ (toSlot (cal (vddToReg v))).toNat = vddToReg v + 13

/-- The packed fan value fits 16 bits and holds fan 0's count in its high byte and fan 1's in its low byte, the bytes never
overlapping (R97). -/
def Obligations.FanPackKeepsBothCounts : Prop :=
  ∀ f0 d0 f1 d1 : Nat,
    fanPack f0 d0 f1 d1 < 65536 ∧
    (highByte (toSlot (fanPack f0 d0 f1 d1))).toNat = rpmToReg f0 d0 ∧
    (lowByte (toSlot (fanPack f0 d0 f1 d1))).toNat = rpmToReg f1 d1

/-- The divisor exponents are bits 7:6 and 5:4 of slot 0x0F, each decodes to its power of two, and the four values to 1, 2, 4
and 8 (R92). -/
def Obligations.DivisorsDecodeFromTheirBits : Prop :=
  ∀ x : Slot,
    fan0Exponent x = x.toNat / 64 % 4 ∧ fan1Exponent x = x.toNat / 16 % 4 ∧
    fanDiv (fan0Exponent x) = 2 ^ (x.toNat / 64 % 4) ∧ fanDiv (fan1Exponent x) = 2 ^ (x.toNat / 16 % 4) ∧
    [0, 1, 2, 3].map fanDiv = [1, 2, 4, 8]

/-! ### Reset and lifecycle -/

/-- Every slot after `Reset(S)` (R210; the slots and parameters are D6 to D12). -/
def Obligations.ResetSetsEverySlot : Prop :=
  ∀ (p : Params) (S : Sensors),
    (resetSlots p S).toList =
      [p.chipId, p.revision, 0, 0, toSlot (tempToReg S.temp0), p.tempLimit, p.tempHyst,
       toSlot (fanPack S.fan0 8 S.fan1 8), p.fanLimit, p.voltLimit, p.voltLimit, p.voltLimit, p.voltLimit,
       toSlot (voltageToReg S.volt2 + 13), 0, p.fandivReset, 0, 0, 0, toSlot (voltageToReg S.volt1 + 13),
       toSlot (voltageToReg S.volt0 + 13), 0x00DF, 0, 0, 0, 0, 0, 0, 0, 0, 0, 0]

/-- The state after reset is what a successful create of the variant `GL518SM@2C` leaves, whatever readings of their domains
the source held before (R165, R211, R214, R215; the seed is D14, the variant and the defaults are logs 1 and 4). -/
def Obligations.ResetStateIsTheCreatedChip : Prop :=
  ∀ S : Sensors, S.WellFormed = true →
    callHost (.create 0x2C false) (State.uncreated Config.params S) = .next State.reset

/-- What the state after reset holds: every component of R214, under the parameters of the model (logs 1, 2 and 4; the seed
is D14). -/
def Obligations.ResetStateComponents : Prop :=
  State.reset.regs.toList =
    [0x0080, 0x0080, 0, 0, 0x0095, 0x00C7, 0x00C2, 0x1414, 0x6464, 0xDAC5, 0xDAC5, 0xDAC5, 0xDAC5, 0x00BA, 0, 0x00F8,
     0, 0, 0, 0x00A3, toSlot (Config.vcore.val / 19 % 256 + 13), 0x00DF, 0, 0, 0, 0, 0, 0, 0, 0, 0, 0] ∧
  State.reset.sel = 0 ∧ State.reset.bus = 0x2C ∧ State.reset.phase = .noPendingSelection ∧ State.reset.life = .live

/-- A create with no chip live, parameters in their constraints and a source that holds readings in their domains (R215)
completes when resources do not run out: the chip is zeroed, the source seeded, reset, bound at the low 7 bits of the
selector and live (R165, R166; D14, D16, the selector's 8 bits are log 16, and the refused cases are logs 7, 9 and 10). -/
def Obligations.CreateMakesALiveBoundChip : Prop :=
  ∀ (s : State) (config : Byte), s.life ≠ .live → s.params.WellFormed = true → s.sensors.WellFormed = true →
    ∃ t : State, callHost (.create config false) s = .next t ∧
      t.regs = resetSlots s.params ⟨3000, 3000, 30, s.params.vcore, s.params.seedV1, 3300⟩ ∧
      t.sensors = ⟨3000, 3000, 30, s.params.vcore, s.params.seedV1, 3300⟩ ∧
      t.sel = 0 ∧ t.phase = .noPendingSelection ∧ t.life = .live ∧ t.last = .done ∧
      t.params = s.params ∧ t.pending = s.pending ∧
      t.bus.toNat = config.toNat % 128 ∧ (∀ A : BusAddress, t.answers A = true ↔ A.toNat = config.toNat % 128)

/-- The two variants differ only in their default bus address: a create of each leaves the same chip but for `bus` (R170). -/
def Obligations.VariantsDifferOnlyInTheirAddress : Prop :=
  Variant.at2C.address = 0x2C ∧ Variant.at2D.address = 0x2D ∧
  ∀ s : State, s.life ≠ .live → s.params.WellFormed = true → s.sensors.WellFormed = true →
    ∃ t : State, ∀ v : Variant, createVariant v false s = .next { t with bus := v.address }

/-- A create that runs out of resources leaves no chip and changes nothing else (R169, R187; D21, D32, log 6). -/
def Obligations.FailedCreateLeavesNothing : Prop :=
  ∀ (s : State) (config : Byte), s.life ≠ .live → s.params.WellFormed = true → s.sensors.WellFormed = true →
    callHost (.create config true) s = .next { s with last := .createFailed }

/-- Destroy unbinds the chip and ends its life, and no transaction reaches it any more (R168; the sentinel is D20). -/
def Obligations.DestroyUnbindsTheChip : Prop :=
  ∀ s : State, s.life = .live →
    callHost .destroy s = .next { s with bus := 0x80, life := .destroyed, last := .done } ∧
    (∀ t, callHost .destroy s = .next t → ∀ A, t.answers A = false)

/-- Remap stores the address as given, unmasked, and from then on exactly the transactions to it are delivered, or none
when it is 0x80 or above (R140, R147; D20). -/
def Obligations.RemapMovesDelivery : Prop :=
  ∀ (s : State) (a : Byte), s.life = .live →
    callHost (.remap a) s = .next { s with bus := a, last := .done } ∧
    (∀ t, callHost (.remap a) s = .next t → ∀ A : BusAddress, t.answers A = true ↔ A.toNat = a.toNat)

/-- A sensor update to readings in their domains changes the source and no state of the chip; the readings of a line are set
one after another, each sets the reading it names to its value and keeps the other five (R83, R171; D15, log 8). -/
def Obligations.SensorUpdateLeavesTheChipAlone : Prop :=
  (∀ (s : State) (rs : List Reading), rs.all Reading.WellFormed = true →
    callHost (.sensor rs) s = .next { s with sensors := s.sensors.updateAll rs, last := .done }) ∧
  (∀ (S : Sensors) (r : Reading) (rs : List Reading),
    S.updateAll [] = S ∧ S.updateAll (r :: rs) = (S.update r).updateAll rs) ∧
  (∀ (S : Sensors) (x : Nat) (t : Int),
    S.update (.fan0 x) = ⟨x, S.fan1, S.temp0, S.volt0, S.volt1, S.volt2⟩ ∧
    S.update (.fan1 x) = ⟨S.fan0, x, S.temp0, S.volt0, S.volt1, S.volt2⟩ ∧
    S.update (.temp0 t) = ⟨S.fan0, S.fan1, t, S.volt0, S.volt1, S.volt2⟩ ∧
    S.update (.volt0 x) = ⟨S.fan0, S.fan1, S.temp0, x, S.volt1, S.volt2⟩ ∧
    S.update (.volt1 x) = ⟨S.fan0, S.fan1, S.temp0, S.volt0, x, S.volt2⟩ ∧
    S.update (.volt2 x) = ⟨S.fan0, S.fan1, S.temp0, S.volt0, S.volt1, x⟩)

/-- When a host operation is refused: create on a live chip, with parameters outside their constraints or with a source that
holds a reading outside its domain, destroy and remap with no live chip, a new reading outside its domain (R215, I11, I17,
I21, I25; logs 7, 9 and 10). -/
def Obligations.HostBreachesAreRefused : Prop :=
  (∀ (s : State) (c : Byte) (f : Bool), s.life = .live → callHost (.create c f) s = .refused .alreadyLive) ∧
  (∀ (s : State) (c : Byte) (f : Bool), s.life ≠ .live → s.params.WellFormed = false →
    callHost (.create c f) s = .refused .badParams) ∧
  (∀ (s : State) (c : Byte) (f : Bool), s.life ≠ .live → s.params.WellFormed = true → s.sensors.WellFormed = false →
    callHost (.create c f) s = .refused .sensorOutOfDomain) ∧
  (∀ s : State, s.life ≠ .live → callHost .destroy s = .refused .notLive) ∧
  (∀ (s : State) (a : Byte), s.life ≠ .live → callHost (.remap a) s = .refused .notLive) ∧
  (∀ (s : State) (rs : List Reading), rs.all Reading.WellFormed = false →
    callHost (.sensor rs) s = .refused .sensorOutOfDomain)

/-! ### The whole machine -/

/-- The state after reset meets the invariant. -/
def Obligations.ResetStateMeetsTheInvariant : Prop := State.reset.Inv

/-- Every step, of any event, keeps the invariant: the masked bits of 0x03, 0x0F and 0x11 stay 0, 0x07 never reflects a
stale divisor, the reading slots hold the readings of the last reset, the readings stay in their domains, and a chip that is
not live is unbound (R40, R41, inferences the spec marks as its own; D10, D13, and the ghost fields are log 11). -/
def Obligations.StepKeepsTheInvariant : Prop :=
  ∀ s t : State, s.Inv → step s = .next t → t.Inv

/-- What a run lets an observer see does not depend on the hidden state: the high bytes of the slots outside the two-byte
set, bits 7:5 of `sel`, the phase (R39, an inference the spec marks as its own; R150, D18). -/
def Obligations.HiddenStateIsNeverObserved : Prop :=
  ∀ (k : Nat) (s t : State), SameView s t → observations k s = observations k t

/-- Writing a verbatim slot and reading it back, with whatever aliases, returns the shaped form of the value written (R112,
R122; W8 and W2 as C8 corrects it; the byte form is D3). -/
def Obligations.VerbatimSlotsReadBack : Prop :=
  ∀ (w r : Instr) (n m : Byte) (v : Slot) (s t : State),
    w.writeOperands = some (n, v) → r.request = .rdwc m → idx m = idx n →
    idx n ∈ ([0x02, 0x05, 0x06, 0x08, 0x09, 0x0B, 0x0C, 0x0E, 0x10, 0x16, 0x17, 0x18, 0x19, 0x1A, 0x1B, 0x1C, 0x1D,
      0x1E, 0x1F] : List Index) →
    exec w s = .next t → exec r t = .next { t with last := .readWord (shape (idx n) v) }

/-- Writing back what a read of 0x03, 0x0F or 0x11 returned stores the same value in that slot, and at 0x03 never resets:
every other slot is kept (R221, an inference the spec marks as its own; at 0x0F the recompute of 0x07 still runs). -/
def Obligations.WriteBackKeepsTheMaskedSlots : Prop :=
  ∀ (n : Byte) (s : State), s.SlotsConsistent → idx n ∈ ([0x03, 0x0F, 0x11] : List Index) →
    readSlot (writeReg n (readReg n s) s).2.regs (idx n) = readSlot s.regs (idx n) ∧
    (∀ j, ¬ (idx n = 0x0F ∧ j = 0x07) → readSlot (writeReg n (readReg n s) s).2.regs j = readSlot s.regs j)

/-- A change of the sensor source is not seen by any read: it returns what it would have returned before (R37, R218, an
inference the spec marks as its own). -/
def Obligations.SensorChangesAreNotReadDirectly : Prop :=
  ∀ (i : Instr) (s t u : State) (rs : List Reading), i.isRead = true →
    callHost (.sensor rs) s = .next t → exec i s = .next u → exec i t = .next { u with sensors := t.sensors }

/-! ### Several chips -/

/-- What a step of a platform does (R140, R153, R199). On chips at different addresses, a transaction to a chip's address
steps that chip to the next state of the decoded instruction, no other chip and no source changes; a transaction no chip
answers changes nothing. A host operation steps the chip it is called on, changes no other, and what it leaves in that chip's
source is what every chip reading that source sees, and no chip of another source. Attaching a chip and providing a source
change no chip. What a transaction does to two chips at one address is not stated (D26, log 13); sources are log 8. -/
def Obligations.ChipsDoNotDisturbEachOther : Prop :=
  (∀ (p : Platform) (A : BusAddress) (d : Descriptor) (i : Instr) (k : Nat) (c : Attached),
    p.Apart → decode d = .ok i → p.chips[k]? = some c → c.state.answers A = true →
    ∃ (t : State) (q : Platform), exec i (p.view c) = .next t ∧ p.step (.transact A d) = .next q ∧
      q.chips[k]? = some { c with state := t } ∧ (∀ j, j ≠ k → q.chips[j]? = p.chips[j]?) ∧
      q.sources = p.sources ∧ q.last = t.last) ∧
  (∀ (p : Platform) (A : BusAddress) (d : Descriptor) (i : Instr),
    decode d = .ok i → (∀ c ∈ p.chips, c.state.answers A = false) →
    p.step (.transact A d) = .next { p with last := .notDelivered A }) ∧
  (∀ (p q : Platform) (A : BusAddress) (d : Descriptor) (j : Nat) (c : Attached),
    p.step (.transact A d) = .next q → p.chips[j]? = some c → c.state.answers A = false → q.chips[j]? = some c) ∧
  (∀ (p : Platform) (k : Nat) (op : HostOp) (c : Attached) (t : State),
    p.clash k op = none → p.chips[k]? = some c → callHost op (p.view c) = .next t →
    ∃ q : Platform, p.step (.call k op) = .next q ∧ q.chips[k]? = some { c with state := t } ∧ q.last = t.last ∧
      (∀ e : Attached, e.source = c.source → c.source < p.sources.length → (q.view e).sensors = t.sensors) ∧
      (∀ e : Attached, e.source ≠ c.source → q.view e = p.view e)) ∧
  (∀ (p q : Platform) (k j : Nat) (op : HostOp),
    p.step (.call k op) = .next q → j ≠ k → q.chips[j]? = p.chips[j]?) ∧
  (∀ (p q : Platform) (params : Params) (m j : Nat) (c : Attached),
    p.step (.attach params m) = .next q → p.chips[j]? = some c → q.chips[j]? = some c) ∧
  (∀ (p q : Platform) (S : Sensors), p.step (.provide S) = .next q → S.WellFormed = true ∧ q.chips = p.chips)

/-- Every step of a platform keeps its live chips at different addresses, so no transaction has two takers (R65; refusing a
second bind at an occupied address is I15, D26, log 13). -/
def Obligations.PlatformStaysApart : Prop :=
  ∀ (p q : Platform) (e : PlatformEvent), p.Apart → p.step e = .next q → q.Apart
end

