-- ==== Sys2Proof/Laws/Decode.lean ====
section
/-! SUPPORT. The laws of the decoder and encoder: the fields of a packed descriptor, a packed descriptor from its fields,
and the rows of the opcode table. -/

namespace Sys2Proof.Laws

open Sys2Proof.Machine

/-! ### Command bytes -/

@[simp] theorem idx_regNum (c : Bank) (i : Index) : idx (regNum c i) = i := by
  revert c i; decide

@[simp] theorem bank_regNum (c : Bank) (i : Index) : bank (regNum c i) = c := by
  revert c i; decide

/-- A command byte is its alias bits over its index. -/
@[simp] theorem regNum_bank_idx (n : Byte) : regNum (bank n) (idx n) = n := by
  revert n; decide

@[simp] theorem lowByte_zext16 (v : Byte) : lowByte (zext16 v) = v := by
  revert v; decide

@[simp] theorem highByte_zext16 (v : Byte) : highByte (zext16 v) = 0 := by
  revert v; decide

/-- A slot value with high byte 0 is its low byte, zero-extended. -/
theorem zext16_lowByte {x : Slot} (h : highByte x = 0) : zext16 (lowByte x) = x := by
  apply BitVec.eq_of_getLsbD_eq
  intro k hk
  by_cases h8 : k < 8
  · simp [zext16, lowByte, h8, hk]
  · have := congrArg (fun y : Byte => y.getLsbD (k - 8)) h
    simp only [highByte, BitVec.getLsbD_extractLsb'] at this
    have h2 : 8 + (k - 8) = k := by omega
    simp [show k - 8 < 8 by omega, h2] at this
    simp [zext16, lowByte, h8, this]

/-! ### The fields of a packed descriptor -/

/-- Every bit of a packed descriptor. -/
theorem getLsbD_pack (D C W : Bool) (cmd : Byte) (data : Slot) (k : Nat) :
    (pack D C W cmd data).getLsbD k =
      if k < 16 then data.getLsbD k
      else if k - 16 < 8 then cmd.getLsbD (k - 16)
      else (BitVec.ofBool D ++ BitVec.ofBool C ++ BitVec.ofBool W ++ (0 : BitVec 5)).getLsbD (k - 16 - 8) := by
  refine BitVec.getLsbD_append.trans ?_
  by_cases h : k < 16
  · rw [if_pos h, if_pos h]
  · rw [if_neg h, if_neg h]
    exact BitVec.getLsbD_append

section pack
variable (D C W : Bool) (cmd : Byte) (data : Slot)

@[simp] theorem dirField_pack : dirField (pack D C W cmd data) = D := by
  rw [dirField, getLsbD_pack]
  cases D <;> cases C <;> cases W <;> rfl

@[simp] theorem cmdPresent_pack : cmdPresent (pack D C W cmd data) = C := by
  rw [cmdPresent, getLsbD_pack]
  cases D <;> cases C <;> cases W <;> rfl

@[simp] theorem wideField_pack : wideField (pack D C W cmd data) = W := by
  rw [wideField, getLsbD_pack]
  cases D <;> cases C <;> cases W <;> rfl

@[simp] theorem rsvField_pack : rsvField (pack D C W cmd data) = 0 := by
  apply BitVec.eq_of_getLsbD_eq
  intro k hk
  rw [rsvField, BitVec.getLsbD_extractLsb', getLsbD_pack]
  interval_cases k <;> cases D <;> cases C <;> cases W <;> rfl

@[simp] theorem cmdField_pack : cmdField (pack D C W cmd data) = cmd := by
  apply BitVec.eq_of_getLsbD_eq
  intro k hk
  rw [cmdField, BitVec.getLsbD_extractLsb', getLsbD_pack]
  simp [hk]

@[simp] theorem dataField_pack : dataField (pack D C W cmd data) = data := by
  apply BitVec.eq_of_getLsbD_eq
  intro k hk
  rw [dataField, BitVec.getLsbD_extractLsb', getLsbD_pack]
  simp [hk]

end pack

/-- A descriptor whose reserved bits are zero is the packing of its fields. -/
theorem pack_fields {d : Descriptor} (h : rsvField d = 0) :
    pack (dirField d) (cmdPresent d) (wideField d) (cmdField d) (dataField d) = d := by
  have hr : ∀ k, k < 5 → d.getLsbD (24 + k) = false := by
    intro k hk
    have := congrArg (fun y : BitVec 5 => y.getLsbD k) h
    simpa [rsvField, hk] using this
  apply BitVec.eq_of_getLsbD_eq
  intro k hk
  rw [getLsbD_pack]
  by_cases h16 : k < 16
  · rw [if_pos h16, dataField, BitVec.getLsbD_extractLsb']
    simp [h16]
  rw [if_neg h16]
  by_cases h24 : k - 16 < 8
  · rw [if_pos h24, cmdField, BitVec.getLsbD_extractLsb', show 16 + (k - 16) = k by omega]
    simp [h24]
  rw [if_neg h24]
  obtain ⟨m, rfl⟩ : ∃ m, k = 24 + m := ⟨k - 24, by omega⟩
  have hm : m < 8 := by omega
  simp only [dirField, cmdPresent, wideField, show 24 + m - 16 - 8 = m by omega]
  have key : ∀ D C W : Bool, ∀ m : Fin 8,
      (BitVec.ofBool D ++ BitVec.ofBool C ++ BitVec.ofBool W ++ (0 : BitVec 5)).getLsbD m.val =
        if m.val < 5 then false else if m.val = 5 then W else if m.val = 6 then C else D := by decide
  rw [key _ _ _ ⟨m, hm⟩]
  by_cases h5 : m < 5
  · simp [h5, hr m h5]
  obtain rfl | rfl | rfl : m = 5 ∨ m = 6 ∨ m = 7 := by omega
  all_goals rfl

/-! ### Requests and rows -/

/-- The index tables list the rows in order, each with its own index. -/
theorem request_rows (i : Index) (c : Bank) :
    ((rdbcRows[i.toNat]'i.isLt) c).request = .rdbc (regNum c i) ∧
    ((rdwcRows[i.toNat]'i.isLt) c).request = .rdwc (regNum c i) ∧
    (∀ v, ((wrbcRows[i.toNat]'i.isLt) c v).request = .wrbc (regNum c i) v) ∧
    (∀ v, ((wrwcRows[i.toNat]'i.isLt) c v).request = .wrwc (regNum c i) v) := by
  obtain ⟨⟨k, hk⟩⟩ := i
  have : k < 32 := hk
  interval_cases k <;> exact ⟨rfl, rfl, fun _ => rfl, fun _ => rfl⟩

/-- The row a transaction falls into is that transaction. -/
theorem request_ofRequest (r : Request) : (Instr.ofRequest r).request = r := by
  cases r with
  | rdb => rfl
  | wrs v => rfl
  | rdbc n => simpa [Instr.ofRequest] using (request_rows (idx n) (bank n)).1
  | rdwc n => simpa [Instr.ofRequest] using (request_rows (idx n) (bank n)).2.1
  | wrbc n v => simpa [Instr.ofRequest] using (request_rows (idx n) (bank n)).2.2.1 v
  | wrwc n v => simpa [Instr.ofRequest] using (request_rows (idx n) (bank n)).2.2.2 v

/-- An indexed row, found again from its command byte. -/
theorem ofRequest_regNum (c : Bank) (i : Index) :
    Instr.ofRequest (.rdbc (regNum c i)) = (rdbcRows[i.toNat]'i.isLt) c ∧
    Instr.ofRequest (.rdwc (regNum c i)) = (rdwcRows[i.toNat]'i.isLt) c ∧
    (∀ v, Instr.ofRequest (.wrbc (regNum c i) v) = (wrbcRows[i.toNat]'i.isLt) c v) ∧
    (∀ v, Instr.ofRequest (.wrwc (regNum c i) v) = (wrwcRows[i.toNat]'i.isLt) c v) := by
  have key : ∀ n : Byte, idx n = i → bank n = c →
      Instr.ofRequest (.rdbc n) = (rdbcRows[i.toNat]'i.isLt) c ∧
      Instr.ofRequest (.rdwc n) = (rdwcRows[i.toNat]'i.isLt) c ∧
      (∀ v, Instr.ofRequest (.wrbc n v) = (wrbcRows[i.toNat]'i.isLt) c v) ∧
      (∀ v, Instr.ofRequest (.wrwc n v) = (wrwcRows[i.toNat]'i.isLt) c v) := by
    rintro n rfl rfl
    exact ⟨rfl, rfl, fun _ => rfl, fun _ => rfl⟩
  exact key _ (idx_regNum c i) (bank_regNum c i)

/-- An instruction is the row its transaction falls into. -/
theorem ofRequest_request (i : Instr) : Instr.ofRequest i.request = i := by
  cases i
  case rdb => rfl
  case wrs => rfl
  all_goals first
    | exact (ofRequest_regNum _ _).1
    | exact (ofRequest_regNum _ _).2.1
    | exact (ofRequest_regNum _ _).2.2.1 _
    | exact (ofRequest_regNum _ _).2.2.2 _

/-! ### Row patterns -/

theorem wrs_row (v : Byte) : encode (.wrs v) &&& (Instr.wrs v).rowMask = (Instr.wrs v).rowMatch := by
  revert v; decide

/-- Masking a packed descriptor with all of its header masks its two other parts. -/
theorem pack_and (D C W : Bool) (cmd m : Byte) (data w : Slot) :
    pack D C W cmd data &&& ((0xFF : BitVec 8) ++ m ++ w : BitVec (8 + 8 + 16)) = pack D C W (cmd &&& m) (data &&& w) := by
  have h : ∀ x : BitVec 8, x &&& 0xFF = x := by decide
  refine (BitVec.and_append (x₁ := _) (x₂ := _) (y₁ := data) (y₂ := w)).trans ?_
  rw [BitVec.and_append, h]
  rfl

/-- A command byte under the mask of an indexed row is the row's index. -/
theorem regNum_and_mask (c : Bank) (i : Index) : regNum c i &&& 0x1F = regNum 0 i := by
  revert c i; decide

theorem zext16_and_mask (v : Byte) : zext16 v &&& 0xFF00 = 0 := by
  revert v; decide

/-- A packed descriptor without alias bits and data is the match value of R78's table. -/
theorem pack_index (i : Index) :
    pack false true false (regNum 0 i) 0 = (0x40000000 : Descriptor) ||| (i.setWidth 32 <<< 16) ∧
    pack false true true (regNum 0 i) 0 = (0x60000000 : Descriptor) ||| (i.setWidth 32 <<< 16) ∧
    pack true true false (regNum 0 i) 0 = (0xC0000000 : Descriptor) ||| (i.setWidth 32 <<< 16) ∧
    pack true true true (regNum 0 i) 0 = (0xE0000000 : Descriptor) ||| (i.setWidth 32 <<< 16) := by
  revert i; decide

/-- The encoding of a transaction with a command byte, under the mask of its row. -/
theorem encodeRequest_and (c : Bank) (i : Index) :
    encodeRequest (.rdbc (regNum c i)) &&& (0xFF1FFFFF : Descriptor) = (0x40000000 : Descriptor) ||| (i.setWidth 32 <<< 16) ∧
    encodeRequest (.rdwc (regNum c i)) &&& (0xFF1FFFFF : Descriptor) = (0x60000000 : Descriptor) ||| (i.setWidth 32 <<< 16) ∧
    (∀ v, encodeRequest (.wrbc (regNum c i) v) &&& (0xFF1FFF00 : Descriptor) = (0xC0000000 : Descriptor) ||| (i.setWidth 32 <<< 16)) ∧
    (∀ v, encodeRequest (.wrwc (regNum c i) v) &&& (0xFF1F0000 : Descriptor) = (0xE0000000 : Descriptor) ||| (i.setWidth 32 <<< 16)) := by
  have p1 := pack_and false true false (regNum c i) 0x1F 0 0xFFFF
  have p2 := pack_and false true true (regNum c i) 0x1F 0 0xFFFF
  refine ⟨?_, ?_, fun v => ?_, fun v => ?_⟩
  · rw [← (pack_index i).1, ← regNum_and_mask c i]; exact p1
  · rw [← (pack_index i).2.1, ← regNum_and_mask c i]; exact p2
  · rw [← (pack_index i).2.2.1, ← regNum_and_mask c i, ← zext16_and_mask v]
    exact pack_and true true false (regNum c i) 0x1F (zext16 v) 0xFF00
  · have hv : v &&& 0 = 0 := BitVec.and_zero
    rw [← (pack_index i).2.2.2, ← regNum_and_mask c i, ← hv]
    exact pack_and true true true (regNum c i) 0x1F v 0

theorem rdbc_row (i : Index) (c : Bank) :
    encodeRequest (.rdbc (regNum c i)) &&& (0xFF1FFFFF : Descriptor) =
      (0x40000000 : Descriptor) ||| ((idx (regNum c i)).setWidth 32 <<< 16) := by
  rw [idx_regNum]; exact (encodeRequest_and c i).1

theorem rdwc_row (i : Index) (c : Bank) :
    encodeRequest (.rdwc (regNum c i)) &&& (0xFF1FFFFF : Descriptor) =
      (0x60000000 : Descriptor) ||| ((idx (regNum c i)).setWidth 32 <<< 16) := by
  rw [idx_regNum]; exact (encodeRequest_and c i).2.1

theorem wrbc_row (i : Index) (c : Bank) (v : Byte) :
    encodeRequest (.wrbc (regNum c i) v) &&& (0xFF1FFF00 : Descriptor) =
      (0xC0000000 : Descriptor) ||| ((idx (regNum c i)).setWidth 32 <<< 16) := by
  rw [idx_regNum]; exact (encodeRequest_and c i).2.2.1 v

theorem wrwc_row (i : Index) (c : Bank) (v : Slot) :
    encodeRequest (.wrwc (regNum c i) v) &&& (0xFF1F0000 : Descriptor) =
      (0xE0000000 : Descriptor) ||| ((idx (regNum c i)).setWidth 32 <<< 16) := by
  rw [idx_regNum]; exact (encodeRequest_and c i).2.2.2 v

end Sys2Proof.Laws
end

