-- ==== Sys2Proof/Laws/State.lean ====
section
/-! SUPPORT. The small lemmas of the state and its updates: what each field is after each named update, and the laws of
reading and writing one slot. -/

namespace Sys2Proof.Laws

open Sys2Proof.Machine

/-! ### One slot -/

@[simp] theorem readSlot_writeSlot_same (r : Slots) (i : Index) (v : Slot) : readSlot (writeSlot r i v) i = v := by
  simp [readSlot, writeSlot]

theorem readSlot_writeSlot_ne (r : Slots) {i j : Index} (v : Slot) (h : j ≠ i) :
    readSlot (writeSlot r i v) j = readSlot r j := by
  have h' : i.toNat ≠ j.toNat := fun e => h (BitVec.eq_of_toNat_eq e.symm)
  simp [readSlot, writeSlot, Vector.getElem_set_ne _ _ h']

/-- Reading any slot after a write of one. -/
theorem readSlot_writeSlot (r : Slots) (i j : Index) (v : Slot) :
    readSlot (writeSlot r i v) j = if j = i then v else readSlot r j := by
  split
  · next h => rw [h, readSlot_writeSlot_same]
  · next h => exact readSlot_writeSlot_ne r v h

/-- Two register arrays with the same slots are the same. -/
theorem slots_ext {r r' : Slots} (h : ∀ i, readSlot r i = readSlot r' i) : r = r' := by
  apply Vector.ext
  intro k hk
  have := h (BitVec.ofNat 5 k)
  simpa [readSlot, Nat.mod_eq_of_lt hk] using this

theorem writeSlot_comm (r : Slots) {i j : Index} (v w : Slot) (h : i ≠ j) :
    writeSlot (writeSlot r i v) j w = writeSlot (writeSlot r j w) i v := by
  apply slots_ext
  intro k
  simp only [readSlot_writeSlot]
  split <;> split <;> simp_all

@[simp] theorem writeSlot_writeSlot (r : Slots) (i : Index) (v w : Slot) :
    writeSlot (writeSlot r i v) i w = writeSlot r i w := by
  simp [writeSlot]

/-! ### `setReg` -/

section setReg
variable (s : State) (i : Index) (v : Slot)
@[simp] theorem setReg_regs : (s.setReg i v).regs = writeSlot s.regs i v := rfl
@[simp] theorem setReg_sel : (s.setReg i v).sel = s.sel := rfl
@[simp] theorem setReg_bus : (s.setReg i v).bus = s.bus := rfl
@[simp] theorem setReg_phase : (s.setReg i v).phase = s.phase := rfl
@[simp] theorem setReg_life : (s.setReg i v).life = s.life := rfl
@[simp] theorem setReg_sensors : (s.setReg i v).sensors = s.sensors := rfl
@[simp] theorem setReg_params : (s.setReg i v).params = s.params := rfl
@[simp] theorem setReg_snapshot : (s.setReg i v).snapshot = s.snapshot := rfl
@[simp] theorem setReg_fanSnapshot : (s.setReg i v).fanSnapshot = s.fanSnapshot := rfl
@[simp] theorem setReg_pending : (s.setReg i v).pending = s.pending := rfl
@[simp] theorem setReg_last : (s.setReg i v).last = s.last := rfl
end setReg

/-! ### `applyReset` -/

section applyReset
variable (s : State)
@[simp] theorem applyReset_regs : s.applyReset.regs = resetSlots s.params s.sensors := rfl
@[simp] theorem applyReset_sel : s.applyReset.sel = s.sel := rfl
@[simp] theorem applyReset_bus : s.applyReset.bus = s.bus := rfl
@[simp] theorem applyReset_phase : s.applyReset.phase = s.phase := rfl
@[simp] theorem applyReset_life : s.applyReset.life = s.life := rfl
@[simp] theorem applyReset_sensors : s.applyReset.sensors = s.sensors := rfl
@[simp] theorem applyReset_params : s.applyReset.params = s.params := rfl
@[simp] theorem applyReset_snapshot : s.applyReset.snapshot = s.sensors := rfl
@[simp] theorem applyReset_fanSnapshot : s.applyReset.fanSnapshot = (s.sensors.fan0, s.sensors.fan1) := rfl
@[simp] theorem applyReset_pending : s.applyReset.pending = s.pending := rfl
@[simp] theorem applyReset_last : s.applyReset.last = s.last := rfl
end applyReset

/-! ### `recomputeFans` -/

section recomputeFans
variable (s : State)
@[simp] theorem recomputeFans_regs : s.recomputeFans.regs =
    writeSlot s.regs 0x07 (fanSlot (readSlot s.regs 0x0F) s.sensors.fan0 s.sensors.fan1) := rfl
@[simp] theorem recomputeFans_sel : s.recomputeFans.sel = s.sel := rfl
@[simp] theorem recomputeFans_bus : s.recomputeFans.bus = s.bus := rfl
@[simp] theorem recomputeFans_phase : s.recomputeFans.phase = s.phase := rfl
@[simp] theorem recomputeFans_life : s.recomputeFans.life = s.life := rfl
@[simp] theorem recomputeFans_sensors : s.recomputeFans.sensors = s.sensors := rfl
@[simp] theorem recomputeFans_params : s.recomputeFans.params = s.params := rfl
@[simp] theorem recomputeFans_snapshot : s.recomputeFans.snapshot = s.snapshot := rfl
@[simp] theorem recomputeFans_fanSnapshot :
    s.recomputeFans.fanSnapshot = (s.sensors.fan0, s.sensors.fan1) := rfl
@[simp] theorem recomputeFans_pending : s.recomputeFans.pending = s.pending := rfl
@[simp] theorem recomputeFans_last : s.recomputeFans.last = s.last := rfl
end recomputeFans

/-! ### `remapTo` -/

section remapTo
variable (s : State) (a : Byte)
@[simp] theorem remapTo_regs : (s.remapTo a).regs = s.regs := rfl
@[simp] theorem remapTo_sel : (s.remapTo a).sel = s.sel := rfl
@[simp] theorem remapTo_bus : (s.remapTo a).bus = a := rfl
@[simp] theorem remapTo_phase : (s.remapTo a).phase = s.phase := rfl
@[simp] theorem remapTo_life : (s.remapTo a).life = s.life := rfl
@[simp] theorem remapTo_sensors : (s.remapTo a).sensors = s.sensors := rfl
@[simp] theorem remapTo_params : (s.remapTo a).params = s.params := rfl
@[simp] theorem remapTo_snapshot : (s.remapTo a).snapshot = s.snapshot := rfl
@[simp] theorem remapTo_fanSnapshot : (s.remapTo a).fanSnapshot = s.fanSnapshot := rfl
@[simp] theorem remapTo_pending : (s.remapTo a).pending = s.pending := rfl
@[simp] theorem remapTo_last : (s.remapTo a).last = s.last := rfl
end remapTo

/-! ### `created` -/

section created
variable (s : State) (config : Byte)
@[simp] theorem created_regs : (s.created config).regs = resetSlots s.params (Sensors.seed s.params) := rfl
@[simp] theorem created_sel : (s.created config).sel = 0 := rfl
@[simp] theorem created_bus : (s.created config).bus = config &&& 0x7F := rfl
@[simp] theorem created_phase : (s.created config).phase = .noPendingSelection := rfl
@[simp] theorem created_life : (s.created config).life = .live := rfl
@[simp] theorem created_sensors : (s.created config).sensors = Sensors.seed s.params := rfl
@[simp] theorem created_params : (s.created config).params = s.params := rfl
@[simp] theorem created_snapshot : (s.created config).snapshot = Sensors.seed s.params := rfl
@[simp] theorem created_fanSnapshot : (s.created config).fanSnapshot =
    ((Sensors.seed s.params).fan0, (Sensors.seed s.params).fan1) := rfl
@[simp] theorem created_pending : (s.created config).pending = s.pending := rfl
@[simp] theorem created_last : (s.created config).last = s.last := rfl
end created

/-! ### The slots after a reset, one by one -/

section resetSlots
variable (p : Params) (S : Sensors)
@[simp] theorem resetSlots_00 : readSlot (resetSlots p S) 0x00 = p.chipId := rfl
@[simp] theorem resetSlots_01 : readSlot (resetSlots p S) 0x01 = p.revision := rfl
@[simp] theorem resetSlots_03 : readSlot (resetSlots p S) 0x03 = 0 := rfl
@[simp] theorem resetSlots_04 : readSlot (resetSlots p S) 0x04 = toSlot (tempToReg S.temp0) := rfl
@[simp] theorem resetSlots_07 : readSlot (resetSlots p S) 0x07 =
    toSlot (fanPack S.fan0 resetDivisor S.fan1 resetDivisor) := rfl
@[simp] theorem resetSlots_0D : readSlot (resetSlots p S) 0x0D = toSlot (cal (voltageToReg S.volt2)) := rfl
@[simp] theorem resetSlots_0F : readSlot (resetSlots p S) 0x0F = p.fandivReset := rfl
@[simp] theorem resetSlots_11 : readSlot (resetSlots p S) 0x11 = 0 := rfl
@[simp] theorem resetSlots_12 : readSlot (resetSlots p S) 0x12 = 0 := rfl
@[simp] theorem resetSlots_13 : readSlot (resetSlots p S) 0x13 = toSlot (cal (voltageToReg S.volt1)) := rfl
@[simp] theorem resetSlots_14 : readSlot (resetSlots p S) 0x14 = toSlot (cal (voltageToReg S.volt0)) := rfl
@[simp] theorem resetSlots_15 : readSlot (resetSlots p S) 0x15 = 0x00DF := by
  change toSlot (cal (vddToReg nominalVdd)) = 0x00DF
  decide
end resetSlots

end Sys2Proof.Laws
end

