-- ==== Sys2Proof/Laws/Exec.lean ====
section
/-! SUPPORT. One law for each shared operation: what the dispatcher, the write dispatch, a delivered transaction and a step
can do. -/

namespace Sys2Proof.Laws

open Sys2Proof.Machine

/-! ### The dispatcher -/

/-- The handler of a transaction (R141 to R146). -/
def respond (r : Request) (s : State) : Host.Outcome State Fault Refusal :=
  match r with
  | .rdb => handleReadSelected s
  | .rdbc n => handleReadByte n s
  | .rdwc n => handleReadWord n s
  | .wrs v => handleSelect v s
  | .wrbc n v => handleWriteByte n v s
  | .wrwc n v => handleWriteWord n v s

/-- Every instruction's meaning is the handler of its transaction. -/
theorem exec_eq_respond (i : Instr) (s : State) : exec i s = respond i.request s := by
  cases i <;> rfl

/-! ### Writes, class by class -/

section storeReg
variable {i : Index} (v : Slot) (s : State)

theorem storeReg_readOnly (h : isReadOnly i = true) : storeReg i v s = s := by
  simp [storeReg, writeClass, h]

theorem storeReg_0A : storeReg 0x0A v s = (s.setReg 0x13 (v &&& 0xFF)).setReg 0x0A v := rfl

theorem storeReg_03 : storeReg 0x03 v s =
    if resetBit v then (s.setReg 0x03 (v &&& 0xFC)).applyReset else s.setReg 0x03 (v &&& 0xFC) := rfl

theorem storeReg_0F : storeReg 0x0F v s = (s.setReg 0x0F (v &&& 0xF8)).recomputeFans := rfl

theorem storeReg_11 : storeReg 0x11 v s = s.setReg 0x11 (v &&& 0x7F) := rfl

theorem storeReg_verbatim (h : writeClass i = .verbatim) : storeReg i v s = s.setReg i v := by
  simp [storeReg, h]

/-- Everything a write can do, index by index. -/
theorem storeReg_cases (i : Index) :
    (isReadOnly i = true ∧ storeReg i v s = s) ∨
    (i = 0x0A ∧ storeReg i v s = (s.setReg 0x13 (v &&& 0xFF)).setReg 0x0A v) ∨
    (i = 0x03 ∧ resetBit v = true ∧ storeReg i v s = (s.setReg 0x03 (v &&& 0xFC)).applyReset) ∨
    (i = 0x03 ∧ resetBit v = false ∧ storeReg i v s = s.setReg 0x03 (v &&& 0xFC)) ∨
    (i = 0x0F ∧ storeReg i v s = (s.setReg 0x0F (v &&& 0xF8)).recomputeFans) ∨
    (i = 0x11 ∧ storeReg i v s = s.setReg 0x11 (v &&& 0x7F)) ∨
    (writeClass i = .verbatim ∧ storeReg i v s = s.setReg i v) := by
  by_cases hro : isReadOnly i = true
  · exact .inl ⟨hro, storeReg_readOnly v s hro⟩
  by_cases hA : i = 0x0A
  · subst hA; exact .inr (.inl ⟨rfl, rfl⟩)
  by_cases h3 : i = 0x03
  · subst h3
    cases hb : resetBit v
    · exact .inr (.inr (.inr (.inl ⟨rfl, rfl, by rw [storeReg_03, hb]; rfl⟩)))
    · exact .inr (.inr (.inl ⟨rfl, rfl, by rw [storeReg_03, hb]; rfl⟩))
  by_cases hF : i = 0x0F
  · subst hF; exact .inr (.inr (.inr (.inr (.inl ⟨rfl, rfl⟩))))
  by_cases h11 : i = 0x11
  · subst h11; exact .inr (.inr (.inr (.inr (.inr (.inl ⟨rfl, rfl⟩)))))
  have hv : writeClass i = .verbatim := by
    rw [writeClass, if_neg hro, if_neg hA, if_neg h3, if_neg hF, if_neg h11]
  exact .inr (.inr (.inr (.inr (.inr (.inr ⟨hv, storeReg_verbatim v s hv⟩)))))

/-- A write leaves everything but the slots and the ghost fields as it was (R123, R212). -/
theorem storeReg_frame (i : Index) :
    (storeReg i v s).sel = s.sel ∧ (storeReg i v s).bus = s.bus ∧ (storeReg i v s).phase = s.phase ∧
    (storeReg i v s).life = s.life ∧ (storeReg i v s).sensors = s.sensors ∧
    (storeReg i v s).params = s.params ∧ (storeReg i v s).pending = s.pending ∧
    (storeReg i v s).last = s.last := by
  obtain ⟨-, h⟩ | ⟨-, h⟩ | ⟨-, -, h⟩ | ⟨-, -, h⟩ | ⟨-, h⟩ | ⟨-, h⟩ | ⟨-, h⟩ := storeReg_cases v s i <;>
    rw [h] <;> exact ⟨rfl, rfl, rfl, rfl, rfl, rfl, rfl, rfl⟩

end storeReg

/-! ### What a transaction can do -/

/-- Every instruction answers a next state; the five shapes it can have. -/
theorem exec_cases (i : Instr) (s : State) :
    (i.request = .rdb ∧ exec i s = .next { s with last := .readByte (lowByte (readReg s.sel s)) }) ∨
    (∃ n, i.request = .rdbc n ∧ exec i s =
      .next { s with phase := .noPendingSelection, last := .readByte (lowByte (readReg n s)) }) ∨
    (∃ n, i.request = .rdwc n ∧ exec i s =
      .next { s with phase := .noPendingSelection, last := .readWord (readReg n s) }) ∨
    (∃ v, i.request = .wrs v ∧ exec i s = .next { s with sel := v, phase := .selectionPending, last := .done }) ∨
    (∃ n v, (i.request = .wrwc n v ∨ ∃ b, i.request = .wrbc n b ∧ v = zext16 b) ∧ exec i s =
      .next { storeReg (idx n) v s with phase := .noPendingSelection, last := .done }) := by
  rw [exec_eq_respond]
  cases h : i.request with
  | rdb => exact .inl ⟨rfl, rfl⟩
  | rdbc n => exact .inr (.inl ⟨n, rfl, rfl⟩)
  | rdwc n => exact .inr (.inr (.inl ⟨n, rfl, rfl⟩))
  | wrs v => exact .inr (.inr (.inr (.inl ⟨v, rfl, rfl⟩)))
  | wrbc n b => exact .inr (.inr (.inr (.inr ⟨n, zext16 b, .inr ⟨b, rfl, rfl⟩, rfl⟩)))
  | wrwc n v => exact .inr (.inr (.inr (.inr ⟨n, v, .inl rfl, rfl⟩)))

/-- A write with a command byte, with the operands it passes to `WriteReg` (R145, R146). -/
theorem exec_write {i : Instr} {n : Byte} {v : Slot} (s : State) (h : i.writeOperands = some (n, v)) :
    exec i s = .next { storeReg (idx n) v s with phase := .noPendingSelection, last := .done } := by
  rw [exec_eq_respond]
  unfold Instr.writeOperands at h
  cases hr : i.request <;> rw [hr] at h <;> cases h <;> rfl

/-! ### What an event can do -/

section events
variable (s : State)

theorem transact_ok {d : Descriptor} {i : Instr} (A : BusAddress) (h : decode d = .ok i) :
    transact A d s = deliver A i s := by
  simp [transact, h]

theorem deliver_answers {A : BusAddress} (i : Instr) (h : s.answers A = true) : deliver A i s = exec i s := by
  simp [deliver, h]

theorem deliver_not {A : BusAddress} (i : Instr) (h : s.answers A = false) :
    deliver A i s = .next { s with last := .notDelivered A } := by
  simp [deliver, h]

theorem step_idle (h : s.pending = []) : step s = .next s := by
  simp [step, advance, h]

theorem step_event {e : Event} {rest : List Event} (h : s.pending = e :: rest) :
    step s = handle e { s with pending := rest } := by
  simp [step, advance, h]

end events

end Sys2Proof.Laws
end

