-- ==== Sys2Proof/Laws/Host.lean ====
section
/-! SUPPORT. One law for each operation of the host: when a transaction is this chip's, and what a host operation and an
operation on one chip of a platform can do when they answer a next state. -/

namespace Sys2Proof.Laws

open Sys2Proof.Machine

/-- A transaction reaches a chip exactly when it is live, bound and addressed (R140). -/
theorem answers_iff (s : State) (A : BusAddress) :
    s.answers A = true ↔ s.life = .live ∧ s.bus.toNat < 0x80 ∧ A.toNat = s.bus.toNat := by
  have hb : s.bus < 0x80 ↔ s.bus.toNat < 0x80 := Iff.rfl
  have ha : A.setWidth 8 = s.bus ↔ A.toNat = s.bus.toNat := by
    have := A.isLt
    constructor
    · intro h
      rw [← h, BitVec.toNat_setWidth]
      omega
    · intro h
      apply BitVec.eq_of_toNat_eq
      rw [BitVec.toNat_setWidth]
      omega
  simp only [State.answers, State.bound, Bool.and_eq_true, decide_eq_true_eq, and_assoc, hb, ha]

/-- Everything a host operation can do when it answers a next state (R147, R165, R168, R169, R171). -/
theorem callHost_cases {op : HostOp} {s t : State} (h : callHost op s = .next t) :
    (∃ c, op = .create c false ∧ s.life ≠ .live ∧ s.params.WellFormed = true ∧ s.sensors.WellFormed = true ∧
      t = { s.created c with last := .done }) ∨
    (∃ c, op = .create c true ∧ s.life ≠ .live ∧ s.params.WellFormed = true ∧ s.sensors.WellFormed = true ∧
      t = { s with last := .createFailed }) ∨
    (op = .destroy ∧ s.life = .live ∧
      t = { s.remapTo Config.unboundAddress with life := .destroyed, last := .done }) ∨
    (∃ a, op = .remap a ∧ s.life = .live ∧ t = { s.remapTo a with last := .done }) ∨
    (∃ rs, op = .sensor rs ∧ rs.all Reading.WellFormed = true ∧
      t = { s with sensors := s.sensors.updateAll rs, last := .done }) := by
  cases op with
  | create c fails =>
    simp only [callHost, createChip] at h
    split at h
    · cases h
    next hl =>
    split at h
    · cases h
    next hp =>
    split at h
    · cases h
    next hs =>
    have hp' : s.params.WellFormed = true := by simpa using hp
    have hs' : s.sensors.WellFormed = true := by simpa using hs
    cases fails <;> cases h
    · exact .inl ⟨c, rfl, hl, hp', hs', rfl⟩
    · exact .inr (.inl ⟨c, rfl, hl, hp', hs', rfl⟩)
  | destroy =>
    simp only [callHost, destroyChip] at h
    split at h <;> cases h
    next hl => exact .inr (.inr (.inl ⟨rfl, hl, rfl⟩))
  | remap a =>
    simp only [callHost, remapChip] at h
    split at h <;> cases h
    next hl => exact .inr (.inr (.inr (.inl ⟨a, rfl, hl, rfl⟩)))
  | sensor rs =>
    simp only [callHost, updateSensors] at h
    split at h <;> cases h
    next hr => exact .inr (.inr (.inr (.inr ⟨rs, rfl, hr, rfl⟩)))

/-! ### Platforms -/

section view
variable (p : Platform) (c : Attached)
@[simp] theorem view_regs : (p.view c).regs = c.state.regs := rfl
@[simp] theorem view_sel : (p.view c).sel = c.state.sel := rfl
@[simp] theorem view_bus : (p.view c).bus = c.state.bus := rfl
@[simp] theorem view_phase : (p.view c).phase = c.state.phase := rfl
@[simp] theorem view_life : (p.view c).life = c.state.life := rfl
@[simp] theorem view_sensors : (p.view c).sensors = p.sources.getD c.source c.state.sensors := rfl
@[simp] theorem view_params : (p.view c).params = c.state.params := rfl
@[simp] theorem view_snapshot : (p.view c).snapshot = c.state.snapshot := rfl
@[simp] theorem view_fanSnapshot : (p.view c).fanSnapshot = c.state.fanSnapshot := rfl
@[simp] theorem view_pending : (p.view c).pending = c.state.pending := rfl
@[simp] theorem view_last : (p.view c).last = c.state.last := rfl
end view

section stepped
variable (p : Platform) (k : Nat) (c : Attached) (t : State)
@[simp] theorem stepped_sources : (p.stepped k c t).sources = p.sources.set c.source t.sensors := rfl
@[simp] theorem stepped_chips : (p.stepped k c t).chips = p.chips.set k { c with state := t } := rfl
@[simp] theorem stepped_last : (p.stepped k c t).last = t.last := rfl
end stepped

/-- Run on an attached chip, a function that answers a next state steps that chip. -/
theorem onChip_of {p : Platform} {k : Nat} {c : Attached} {f : State → Host.Outcome State Fault Refusal} {t : State}
    (hc : p.chips[k]? = some c) (hf : f (p.view c) = .next t) : p.onChip k f = .next (p.stepped k c t) := by
  simp [Platform.onChip, hc, hf]

/-- An operation on chip `k` of a platform that answers a next platform stepped that chip alone. -/
theorem onChip_next {p q : Platform} {k : Nat} {f : State → Host.Outcome State Fault Refusal}
    (h : p.onChip k f = .next q) :
    ∃ c t, p.chips[k]? = some c ∧ f (p.view c) = .next t ∧ q = p.stepped k c t := by
  unfold Platform.onChip at h
  split at h
  · cases h
  next c hc =>
  split at h <;> cases h
  next t ht => exact ⟨c, t, hc, ht, rfl⟩

end Sys2Proof.Laws
end

