-- ==== Sys2Proof/Laws/PerInstr.lean ====
section
/-! SUPPORT. The family RowMatch: what each instruction's encoding says of its opcode-table row, one lemma for each
constructor. -/

namespace Sys2Proof.Laws

/-- The descriptor an instruction encodes to matches the mask and match value of the instruction's own row (R78). -/
def RowMatch.Statement (i : Instr) : Prop := encode i &&& i.rowMask = i.rowMatch

theorem RowMatch.rdb : RowMatch.Statement .rdb := by
  unfold RowMatch.Statement
  decide

theorem RowMatch.wrs (v : Byte) : RowMatch.Statement (.wrs v) := wrs_row v

theorem RowMatch.rdbc00 (c : Bank) : RowMatch.Statement (.rdbc00 c) := rdbc_row 0x00 c

theorem RowMatch.rdbc01 (c : Bank) : RowMatch.Statement (.rdbc01 c) := rdbc_row 0x01 c

theorem RowMatch.rdbc02 (c : Bank) : RowMatch.Statement (.rdbc02 c) := rdbc_row 0x02 c

theorem RowMatch.rdbc03 (c : Bank) : RowMatch.Statement (.rdbc03 c) := rdbc_row 0x03 c

theorem RowMatch.rdbc04 (c : Bank) : RowMatch.Statement (.rdbc04 c) := rdbc_row 0x04 c

theorem RowMatch.rdbc05 (c : Bank) : RowMatch.Statement (.rdbc05 c) := rdbc_row 0x05 c

theorem RowMatch.rdbc06 (c : Bank) : RowMatch.Statement (.rdbc06 c) := rdbc_row 0x06 c

theorem RowMatch.rdbc07 (c : Bank) : RowMatch.Statement (.rdbc07 c) := rdbc_row 0x07 c

theorem RowMatch.rdbc08 (c : Bank) : RowMatch.Statement (.rdbc08 c) := rdbc_row 0x08 c

theorem RowMatch.rdbc09 (c : Bank) : RowMatch.Statement (.rdbc09 c) := rdbc_row 0x09 c

theorem RowMatch.rdbc0A (c : Bank) : RowMatch.Statement (.rdbc0A c) := rdbc_row 0x0A c

theorem RowMatch.rdbc0B (c : Bank) : RowMatch.Statement (.rdbc0B c) := rdbc_row 0x0B c

theorem RowMatch.rdbc0C (c : Bank) : RowMatch.Statement (.rdbc0C c) := rdbc_row 0x0C c

theorem RowMatch.rdbc0D (c : Bank) : RowMatch.Statement (.rdbc0D c) := rdbc_row 0x0D c

theorem RowMatch.rdbc0E (c : Bank) : RowMatch.Statement (.rdbc0E c) := rdbc_row 0x0E c

theorem RowMatch.rdbc0F (c : Bank) : RowMatch.Statement (.rdbc0F c) := rdbc_row 0x0F c

theorem RowMatch.rdbc10 (c : Bank) : RowMatch.Statement (.rdbc10 c) := rdbc_row 0x10 c

theorem RowMatch.rdbc11 (c : Bank) : RowMatch.Statement (.rdbc11 c) := rdbc_row 0x11 c

theorem RowMatch.rdbc12 (c : Bank) : RowMatch.Statement (.rdbc12 c) := rdbc_row 0x12 c

theorem RowMatch.rdbc13 (c : Bank) : RowMatch.Statement (.rdbc13 c) := rdbc_row 0x13 c

theorem RowMatch.rdbc14 (c : Bank) : RowMatch.Statement (.rdbc14 c) := rdbc_row 0x14 c

theorem RowMatch.rdbc15 (c : Bank) : RowMatch.Statement (.rdbc15 c) := rdbc_row 0x15 c

theorem RowMatch.rdbc16 (c : Bank) : RowMatch.Statement (.rdbc16 c) := rdbc_row 0x16 c

theorem RowMatch.rdbc17 (c : Bank) : RowMatch.Statement (.rdbc17 c) := rdbc_row 0x17 c

theorem RowMatch.rdbc18 (c : Bank) : RowMatch.Statement (.rdbc18 c) := rdbc_row 0x18 c

theorem RowMatch.rdbc19 (c : Bank) : RowMatch.Statement (.rdbc19 c) := rdbc_row 0x19 c

theorem RowMatch.rdbc1A (c : Bank) : RowMatch.Statement (.rdbc1A c) := rdbc_row 0x1A c

theorem RowMatch.rdbc1B (c : Bank) : RowMatch.Statement (.rdbc1B c) := rdbc_row 0x1B c

theorem RowMatch.rdbc1C (c : Bank) : RowMatch.Statement (.rdbc1C c) := rdbc_row 0x1C c

theorem RowMatch.rdbc1D (c : Bank) : RowMatch.Statement (.rdbc1D c) := rdbc_row 0x1D c

theorem RowMatch.rdbc1E (c : Bank) : RowMatch.Statement (.rdbc1E c) := rdbc_row 0x1E c

theorem RowMatch.rdbc1F (c : Bank) : RowMatch.Statement (.rdbc1F c) := rdbc_row 0x1F c

theorem RowMatch.rdwc00 (c : Bank) : RowMatch.Statement (.rdwc00 c) := rdwc_row 0x00 c

theorem RowMatch.rdwc01 (c : Bank) : RowMatch.Statement (.rdwc01 c) := rdwc_row 0x01 c

theorem RowMatch.rdwc02 (c : Bank) : RowMatch.Statement (.rdwc02 c) := rdwc_row 0x02 c

theorem RowMatch.rdwc03 (c : Bank) : RowMatch.Statement (.rdwc03 c) := rdwc_row 0x03 c

theorem RowMatch.rdwc04 (c : Bank) : RowMatch.Statement (.rdwc04 c) := rdwc_row 0x04 c

theorem RowMatch.rdwc05 (c : Bank) : RowMatch.Statement (.rdwc05 c) := rdwc_row 0x05 c

theorem RowMatch.rdwc06 (c : Bank) : RowMatch.Statement (.rdwc06 c) := rdwc_row 0x06 c

theorem RowMatch.rdwc07 (c : Bank) : RowMatch.Statement (.rdwc07 c) := rdwc_row 0x07 c

theorem RowMatch.rdwc08 (c : Bank) : RowMatch.Statement (.rdwc08 c) := rdwc_row 0x08 c

theorem RowMatch.rdwc09 (c : Bank) : RowMatch.Statement (.rdwc09 c) := rdwc_row 0x09 c

theorem RowMatch.rdwc0A (c : Bank) : RowMatch.Statement (.rdwc0A c) := rdwc_row 0x0A c

theorem RowMatch.rdwc0B (c : Bank) : RowMatch.Statement (.rdwc0B c) := rdwc_row 0x0B c

theorem RowMatch.rdwc0C (c : Bank) : RowMatch.Statement (.rdwc0C c) := rdwc_row 0x0C c

theorem RowMatch.rdwc0D (c : Bank) : RowMatch.Statement (.rdwc0D c) := rdwc_row 0x0D c

theorem RowMatch.rdwc0E (c : Bank) : RowMatch.Statement (.rdwc0E c) := rdwc_row 0x0E c

theorem RowMatch.rdwc0F (c : Bank) : RowMatch.Statement (.rdwc0F c) := rdwc_row 0x0F c

theorem RowMatch.rdwc10 (c : Bank) : RowMatch.Statement (.rdwc10 c) := rdwc_row 0x10 c

theorem RowMatch.rdwc11 (c : Bank) : RowMatch.Statement (.rdwc11 c) := rdwc_row 0x11 c

theorem RowMatch.rdwc12 (c : Bank) : RowMatch.Statement (.rdwc12 c) := rdwc_row 0x12 c

theorem RowMatch.rdwc13 (c : Bank) : RowMatch.Statement (.rdwc13 c) := rdwc_row 0x13 c

theorem RowMatch.rdwc14 (c : Bank) : RowMatch.Statement (.rdwc14 c) := rdwc_row 0x14 c

theorem RowMatch.rdwc15 (c : Bank) : RowMatch.Statement (.rdwc15 c) := rdwc_row 0x15 c

theorem RowMatch.rdwc16 (c : Bank) : RowMatch.Statement (.rdwc16 c) := rdwc_row 0x16 c

theorem RowMatch.rdwc17 (c : Bank) : RowMatch.Statement (.rdwc17 c) := rdwc_row 0x17 c

theorem RowMatch.rdwc18 (c : Bank) : RowMatch.Statement (.rdwc18 c) := rdwc_row 0x18 c

theorem RowMatch.rdwc19 (c : Bank) : RowMatch.Statement (.rdwc19 c) := rdwc_row 0x19 c

theorem RowMatch.rdwc1A (c : Bank) : RowMatch.Statement (.rdwc1A c) := rdwc_row 0x1A c

theorem RowMatch.rdwc1B (c : Bank) : RowMatch.Statement (.rdwc1B c) := rdwc_row 0x1B c

theorem RowMatch.rdwc1C (c : Bank) : RowMatch.Statement (.rdwc1C c) := rdwc_row 0x1C c

theorem RowMatch.rdwc1D (c : Bank) : RowMatch.Statement (.rdwc1D c) := rdwc_row 0x1D c

theorem RowMatch.rdwc1E (c : Bank) : RowMatch.Statement (.rdwc1E c) := rdwc_row 0x1E c

theorem RowMatch.rdwc1F (c : Bank) : RowMatch.Statement (.rdwc1F c) := rdwc_row 0x1F c

theorem RowMatch.wrbc00 (c : Bank) (v : Byte) : RowMatch.Statement (.wrbc00 c v) := wrbc_row 0x00 c v

theorem RowMatch.wrbc01 (c : Bank) (v : Byte) : RowMatch.Statement (.wrbc01 c v) := wrbc_row 0x01 c v

theorem RowMatch.wrbc02 (c : Bank) (v : Byte) : RowMatch.Statement (.wrbc02 c v) := wrbc_row 0x02 c v

theorem RowMatch.wrbc03 (c : Bank) (v : Byte) : RowMatch.Statement (.wrbc03 c v) := wrbc_row 0x03 c v

theorem RowMatch.wrbc04 (c : Bank) (v : Byte) : RowMatch.Statement (.wrbc04 c v) := wrbc_row 0x04 c v

theorem RowMatch.wrbc05 (c : Bank) (v : Byte) : RowMatch.Statement (.wrbc05 c v) := wrbc_row 0x05 c v

theorem RowMatch.wrbc06 (c : Bank) (v : Byte) : RowMatch.Statement (.wrbc06 c v) := wrbc_row 0x06 c v

theorem RowMatch.wrbc07 (c : Bank) (v : Byte) : RowMatch.Statement (.wrbc07 c v) := wrbc_row 0x07 c v

theorem RowMatch.wrbc08 (c : Bank) (v : Byte) : RowMatch.Statement (.wrbc08 c v) := wrbc_row 0x08 c v

theorem RowMatch.wrbc09 (c : Bank) (v : Byte) : RowMatch.Statement (.wrbc09 c v) := wrbc_row 0x09 c v

theorem RowMatch.wrbc0A (c : Bank) (v : Byte) : RowMatch.Statement (.wrbc0A c v) := wrbc_row 0x0A c v

theorem RowMatch.wrbc0B (c : Bank) (v : Byte) : RowMatch.Statement (.wrbc0B c v) := wrbc_row 0x0B c v

theorem RowMatch.wrbc0C (c : Bank) (v : Byte) : RowMatch.Statement (.wrbc0C c v) := wrbc_row 0x0C c v

theorem RowMatch.wrbc0D (c : Bank) (v : Byte) : RowMatch.Statement (.wrbc0D c v) := wrbc_row 0x0D c v

theorem RowMatch.wrbc0E (c : Bank) (v : Byte) : RowMatch.Statement (.wrbc0E c v) := wrbc_row 0x0E c v

theorem RowMatch.wrbc0F (c : Bank) (v : Byte) : RowMatch.Statement (.wrbc0F c v) := wrbc_row 0x0F c v

theorem RowMatch.wrbc10 (c : Bank) (v : Byte) : RowMatch.Statement (.wrbc10 c v) := wrbc_row 0x10 c v

theorem RowMatch.wrbc11 (c : Bank) (v : Byte) : RowMatch.Statement (.wrbc11 c v) := wrbc_row 0x11 c v

theorem RowMatch.wrbc12 (c : Bank) (v : Byte) : RowMatch.Statement (.wrbc12 c v) := wrbc_row 0x12 c v

theorem RowMatch.wrbc13 (c : Bank) (v : Byte) : RowMatch.Statement (.wrbc13 c v) := wrbc_row 0x13 c v

theorem RowMatch.wrbc14 (c : Bank) (v : Byte) : RowMatch.Statement (.wrbc14 c v) := wrbc_row 0x14 c v

theorem RowMatch.wrbc15 (c : Bank) (v : Byte) : RowMatch.Statement (.wrbc15 c v) := wrbc_row 0x15 c v

theorem RowMatch.wrbc16 (c : Bank) (v : Byte) : RowMatch.Statement (.wrbc16 c v) := wrbc_row 0x16 c v

theorem RowMatch.wrbc17 (c : Bank) (v : Byte) : RowMatch.Statement (.wrbc17 c v) := wrbc_row 0x17 c v

theorem RowMatch.wrbc18 (c : Bank) (v : Byte) : RowMatch.Statement (.wrbc18 c v) := wrbc_row 0x18 c v

theorem RowMatch.wrbc19 (c : Bank) (v : Byte) : RowMatch.Statement (.wrbc19 c v) := wrbc_row 0x19 c v

theorem RowMatch.wrbc1A (c : Bank) (v : Byte) : RowMatch.Statement (.wrbc1A c v) := wrbc_row 0x1A c v

theorem RowMatch.wrbc1B (c : Bank) (v : Byte) : RowMatch.Statement (.wrbc1B c v) := wrbc_row 0x1B c v

theorem RowMatch.wrbc1C (c : Bank) (v : Byte) : RowMatch.Statement (.wrbc1C c v) := wrbc_row 0x1C c v

theorem RowMatch.wrbc1D (c : Bank) (v : Byte) : RowMatch.Statement (.wrbc1D c v) := wrbc_row 0x1D c v

theorem RowMatch.wrbc1E (c : Bank) (v : Byte) : RowMatch.Statement (.wrbc1E c v) := wrbc_row 0x1E c v

theorem RowMatch.wrbc1F (c : Bank) (v : Byte) : RowMatch.Statement (.wrbc1F c v) := wrbc_row 0x1F c v

theorem RowMatch.wrwc00 (c : Bank) (v : Slot) : RowMatch.Statement (.wrwc00 c v) := wrwc_row 0x00 c v

theorem RowMatch.wrwc01 (c : Bank) (v : Slot) : RowMatch.Statement (.wrwc01 c v) := wrwc_row 0x01 c v

theorem RowMatch.wrwc02 (c : Bank) (v : Slot) : RowMatch.Statement (.wrwc02 c v) := wrwc_row 0x02 c v

theorem RowMatch.wrwc03 (c : Bank) (v : Slot) : RowMatch.Statement (.wrwc03 c v) := wrwc_row 0x03 c v

theorem RowMatch.wrwc04 (c : Bank) (v : Slot) : RowMatch.Statement (.wrwc04 c v) := wrwc_row 0x04 c v

theorem RowMatch.wrwc05 (c : Bank) (v : Slot) : RowMatch.Statement (.wrwc05 c v) := wrwc_row 0x05 c v

theorem RowMatch.wrwc06 (c : Bank) (v : Slot) : RowMatch.Statement (.wrwc06 c v) := wrwc_row 0x06 c v

theorem RowMatch.wrwc07 (c : Bank) (v : Slot) : RowMatch.Statement (.wrwc07 c v) := wrwc_row 0x07 c v

theorem RowMatch.wrwc08 (c : Bank) (v : Slot) : RowMatch.Statement (.wrwc08 c v) := wrwc_row 0x08 c v

theorem RowMatch.wrwc09 (c : Bank) (v : Slot) : RowMatch.Statement (.wrwc09 c v) := wrwc_row 0x09 c v

theorem RowMatch.wrwc0A (c : Bank) (v : Slot) : RowMatch.Statement (.wrwc0A c v) := wrwc_row 0x0A c v

theorem RowMatch.wrwc0B (c : Bank) (v : Slot) : RowMatch.Statement (.wrwc0B c v) := wrwc_row 0x0B c v

theorem RowMatch.wrwc0C (c : Bank) (v : Slot) : RowMatch.Statement (.wrwc0C c v) := wrwc_row 0x0C c v

theorem RowMatch.wrwc0D (c : Bank) (v : Slot) : RowMatch.Statement (.wrwc0D c v) := wrwc_row 0x0D c v

theorem RowMatch.wrwc0E (c : Bank) (v : Slot) : RowMatch.Statement (.wrwc0E c v) := wrwc_row 0x0E c v

theorem RowMatch.wrwc0F (c : Bank) (v : Slot) : RowMatch.Statement (.wrwc0F c v) := wrwc_row 0x0F c v

theorem RowMatch.wrwc10 (c : Bank) (v : Slot) : RowMatch.Statement (.wrwc10 c v) := wrwc_row 0x10 c v

theorem RowMatch.wrwc11 (c : Bank) (v : Slot) : RowMatch.Statement (.wrwc11 c v) := wrwc_row 0x11 c v

theorem RowMatch.wrwc12 (c : Bank) (v : Slot) : RowMatch.Statement (.wrwc12 c v) := wrwc_row 0x12 c v

theorem RowMatch.wrwc13 (c : Bank) (v : Slot) : RowMatch.Statement (.wrwc13 c v) := wrwc_row 0x13 c v

theorem RowMatch.wrwc14 (c : Bank) (v : Slot) : RowMatch.Statement (.wrwc14 c v) := wrwc_row 0x14 c v

theorem RowMatch.wrwc15 (c : Bank) (v : Slot) : RowMatch.Statement (.wrwc15 c v) := wrwc_row 0x15 c v

theorem RowMatch.wrwc16 (c : Bank) (v : Slot) : RowMatch.Statement (.wrwc16 c v) := wrwc_row 0x16 c v

theorem RowMatch.wrwc17 (c : Bank) (v : Slot) : RowMatch.Statement (.wrwc17 c v) := wrwc_row 0x17 c v

theorem RowMatch.wrwc18 (c : Bank) (v : Slot) : RowMatch.Statement (.wrwc18 c v) := wrwc_row 0x18 c v

theorem RowMatch.wrwc19 (c : Bank) (v : Slot) : RowMatch.Statement (.wrwc19 c v) := wrwc_row 0x19 c v

theorem RowMatch.wrwc1A (c : Bank) (v : Slot) : RowMatch.Statement (.wrwc1A c v) := wrwc_row 0x1A c v

theorem RowMatch.wrwc1B (c : Bank) (v : Slot) : RowMatch.Statement (.wrwc1B c v) := wrwc_row 0x1B c v

theorem RowMatch.wrwc1C (c : Bank) (v : Slot) : RowMatch.Statement (.wrwc1C c v) := wrwc_row 0x1C c v

theorem RowMatch.wrwc1D (c : Bank) (v : Slot) : RowMatch.Statement (.wrwc1D c v) := wrwc_row 0x1D c v

theorem RowMatch.wrwc1E (c : Bank) (v : Slot) : RowMatch.Statement (.wrwc1E c v) := wrwc_row 0x1E c v

theorem RowMatch.wrwc1F (c : Bank) (v : Slot) : RowMatch.Statement (.wrwc1F c v) := wrwc_row 0x1F c v

end Sys2Proof.Laws
end

