-- ==== Sys2Proof/Tests/Slice0.lean ====
section
/-! SUPPORT. Small tests: ill-formed inputs refused, words written out from the table's encodings, the spec's own vectors
(95_test_vectors.md, where every expected value comes from), and for each statement with hypotheses a witness of them. -/

namespace Sys2Proof.Tests

open Sys2Proof.Machine

/-! ### The states the tests start from -/

/-- The next state of an outcome; a stop gives the state with no chip, which no test expects. -/
def nextOf (o : Host.Outcome State Fault Refusal) : State :=
  match o with
  | .next s => s
  | .fault _ => State.uncreated Config.params (Sensors.seed Config.params)
  | .refused _ => State.uncreated Config.params (Sensors.seed Config.params)

/-- The parameters of the vectors: the defaults, and `P_VCORE = 2800` for the vectors only (D14). -/
def vectorParams : Params := { Config.params with vcore := 2800 }

/-- No chip yet, and a source that holds other readings than the seed. -/
def bare : State := State.uncreated vectorParams ⟨0, 0, 0, 0, 0, 0⟩

/-- T0: the state after `create(0x2C)`. -/
def T0 : State := nextOf (callHost (.create 0x2C false) bare)

/-- The chip of T0 destroyed. -/
def gone : State := nextOf (callHost .destroy T0)

/-- The chip of T0 with the source's readings replaced. -/
def under (S : Sensors) : State := { T0 with sensors := S }

/-- The state after the transaction `d` sent to `0x2C`. -/
def send (d : Descriptor) (s : State) : State := nextOf (transact 0x2C d s)

/-- The refusal of an outcome. -/
def refusalOf (o : Host.Outcome State Fault Refusal) : Option Refusal :=
  match o with
  | .next _ => none
  | .fault _ => none
  | .refused r => some r

/-- Each word decodes to the instruction beside it and is its encoding, by the table's numbering too. -/
def readsAs (table : List (Descriptor × Instr)) : Bool :=
  table.all fun row =>
    decodeTableWord 32 row.1.toNat = some row.2 && encode row.2 = row.1 && row.2.rowMatches row.1 && row.2.WellFormed

/-! ### Ill-formed inputs are refused -/

/-- The transaction `d` is refused as `r`, sent to the chip or to no chip (V8). -/
def refusedAs (d : Descriptor) (r : Refusal) : Bool :=
  !Descriptor.WellFormed d && refusalOf (transact 0x2C d T0) = some r && refusalOf (transact 0x55 d T0) = some r

theorem test_ill_formed_shape : refusedAs 0x20000000 (.noSuchShape 0x20000000) = true ∧
    refusedAs 0xA0000000 (.noSuchShape 0xA0000000) = true := by decide
theorem test_ill_formed_reserved : refusedAs 0x01000000 (.nonCanonical 0x01000000) = true ∧
    refusedAs 0xF0000000 (.nonCanonical 0xF0000000) = true := by decide
theorem test_ill_formed_command : refusedAs 0x00010000 (.nonCanonical 0x00010000) = true ∧
    refusedAs 0x80010004 (.nonCanonical 0x80010004) = true := by decide
theorem test_ill_formed_read_data : refusedAs 0x40040001 (.nonCanonical 0x40040001) = true ∧
    refusedAs 0x60040100 (.nonCanonical 0x60040100) = true := by decide
theorem test_ill_formed_high_data : refusedAs 0x80000100 (.nonCanonical 0x80000100) = true ∧
    refusedAs 0xC0030100 (.nonCanonical 0xC0030100) = true := by decide

/-- A divisor reset value outside D10's constraint, and a seed outside its domain, make no chip (I11, I12). -/
theorem test_ill_formed_params :
    ({ vectorParams with fandivReset := 0x00F9 } : Params).fandivWellFormed = false ∧
    ({ vectorParams with fandivReset := 0x01F8 } : Params).fandivWellFormed = false ∧
    ({ vectorParams with vcore := 65536 } : Params).seedsWellFormed = false ∧
    ({ vectorParams with seedV1 := 65536 } : Params).seedsWellFormed = false ∧
    refusalOf (callHost (.create 0x2C false) { bare with params := { vectorParams with fandivReset := 0x0078 } }) =
      some .badParams := by decide

/-- A source outside D13's domains, one reading at a time. -/
theorem test_ill_formed_source :
    (⟨65536, 0, 0, 0, 0, 0⟩ : Sensors).fansWellFormed = false ∧ (⟨0, 65536, 0, 0, 0, 0⟩ : Sensors).fansWellFormed = false ∧
    (⟨0, 0, 0, 65536, 0, 0⟩ : Sensors).voltsWellFormed = false ∧
    (⟨0, 0, 0, 0, 65536, 0⟩ : Sensors).voltsWellFormed = false ∧
    (⟨0, 0, 0, 0, 0, 65536⟩ : Sensors).WellFormed = false ∧ (⟨0, 65536, 0, 0, 0, 0⟩ : Sensors).WellFormed = false := by
  decide

/-- A new reading outside D13's domains is refused, and any temperature is taken (I17, I25). -/
theorem test_ill_formed_reading :
    [Reading.fan0 65536, .fan1 65536, .volt0 65536, .volt1 65536, .volt2 65536].all
      (fun r => !r.WellFormed && refusalOf (callHost (.sensor [r]) T0) = some .sensorOutOfDomain) = true ∧
    (Reading.temp0 (-100000)).WellFormed = true := by decide

/-- A source with a reading outside its domain makes no chip and is not provided (R215, I25). -/
theorem test_ill_formed_provided :
    refusalOf (callHost (.create 0x2C false) { bare with sensors := ⟨0, 0, 0, 0, 65536, 0⟩ }) = some .sensorOutOfDomain ∧
    (match (⟨[], [], .done⟩ : Platform).step (.provide ⟨0, 0, 0, 0, 65536, 0⟩) with
      | .next _ => none | .fault _ => none | .refused r => some r) = some .sourceOutOfDomain := by decide

/-- An operand out of its range is an assembly error, at the first value outside each range (R84). -/
theorem test_ill_formed_line :
    [Line.rdb 0x80, .rdbc 0x80 0, .rdbc 0 0x100, .rdwc 0x80 0, .rdwc 0 0x100, .wrs 0x80 0, .wrs 0 0x100,
     .wrbc 0x80 0 0, .wrbc 0 0x100 0, .wrbc 0 0 0x100, .wrwc 0x80 0 0, .wrwc 0 0x100 0, .wrwc 0 0 0x10000,
     .create 0x100, .remap 0x100].all
      (fun l => match l.assemble false with | .ok _ => false | .error e => e = .operandOutOfRange) = true := by decide

/-! ### Words written out from the table's encodings -/

/-- The word of `RDB`, written out from the table's encoding (R78). -/
theorem test_decode_rdb : readsAs [(0x00000000, .rdb)] = true := by decide

/-- The word of `WRS`, written out from the table's encoding (R78). -/
theorem test_decode_wrs : readsAs [(0x800000A5, .wrs 0xA5)] = true := by decide

/-- The words of `RDBC.00` to `RDBC.07`, alias bits and operands set, written out from the table's encodings (R78). -/
theorem test_decode_rdbc_00_07 : readsAs
    [(0x40C00000, .rdbc00 6), (0x40410000, .rdbc01 2),
     (0x40A20000, .rdbc02 5), (0x40230000, .rdbc03 1),
     (0x40840000, .rdbc04 4), (0x40E50000, .rdbc05 7),
     (0x40660000, .rdbc06 3), (0x40C70000, .rdbc07 6)] = true := by decide

/-- The words of `RDBC.08` to `RDBC.0F`, alias bits and operands set, written out from the table's encodings (R78). -/
theorem test_decode_rdbc_08_0F : readsAs
    [(0x40480000, .rdbc08 2), (0x40A90000, .rdbc09 5),
     (0x402A0000, .rdbc0A 1), (0x408B0000, .rdbc0B 4),
     (0x40EC0000, .rdbc0C 7), (0x406D0000, .rdbc0D 3),
     (0x40CE0000, .rdbc0E 6), (0x404F0000, .rdbc0F 2)] = true := by decide

/-- The words of `RDBC.10` to `RDBC.17`, alias bits and operands set, written out from the table's encodings (R78). -/
theorem test_decode_rdbc_10_17 : readsAs
    [(0x40B00000, .rdbc10 5), (0x40310000, .rdbc11 1),
     (0x40920000, .rdbc12 4), (0x40F30000, .rdbc13 7),
     (0x40740000, .rdbc14 3), (0x40D50000, .rdbc15 6),
     (0x40560000, .rdbc16 2), (0x40B70000, .rdbc17 5)] = true := by decide

/-- The words of `RDBC.18` to `RDBC.1F`, alias bits and operands set, written out from the table's encodings (R78). -/
theorem test_decode_rdbc_18_1F : readsAs
    [(0x40380000, .rdbc18 1), (0x40990000, .rdbc19 4),
     (0x40FA0000, .rdbc1A 7), (0x407B0000, .rdbc1B 3),
     (0x40DC0000, .rdbc1C 6), (0x405D0000, .rdbc1D 2),
     (0x40BE0000, .rdbc1E 5), (0x403F0000, .rdbc1F 1)] = true := by decide

/-- The words of `RDWC.00` to `RDWC.07`, alias bits and operands set, written out from the table's encodings (R78). -/
theorem test_decode_rdwc_00_07 : readsAs
    [(0x60C00000, .rdwc00 6), (0x60410000, .rdwc01 2),
     (0x60A20000, .rdwc02 5), (0x60230000, .rdwc03 1),
     (0x60840000, .rdwc04 4), (0x60E50000, .rdwc05 7),
     (0x60660000, .rdwc06 3), (0x60C70000, .rdwc07 6)] = true := by decide

/-- The words of `RDWC.08` to `RDWC.0F`, alias bits and operands set, written out from the table's encodings (R78). -/
theorem test_decode_rdwc_08_0F : readsAs
    [(0x60480000, .rdwc08 2), (0x60A90000, .rdwc09 5),
     (0x602A0000, .rdwc0A 1), (0x608B0000, .rdwc0B 4),
     (0x60EC0000, .rdwc0C 7), (0x606D0000, .rdwc0D 3),
     (0x60CE0000, .rdwc0E 6), (0x604F0000, .rdwc0F 2)] = true := by decide

/-- The words of `RDWC.10` to `RDWC.17`, alias bits and operands set, written out from the table's encodings (R78). -/
theorem test_decode_rdwc_10_17 : readsAs
    [(0x60B00000, .rdwc10 5), (0x60310000, .rdwc11 1),
     (0x60920000, .rdwc12 4), (0x60F30000, .rdwc13 7),
     (0x60740000, .rdwc14 3), (0x60D50000, .rdwc15 6),
     (0x60560000, .rdwc16 2), (0x60B70000, .rdwc17 5)] = true := by decide

/-- The words of `RDWC.18` to `RDWC.1F`, alias bits and operands set, written out from the table's encodings (R78). -/
theorem test_decode_rdwc_18_1F : readsAs
    [(0x60380000, .rdwc18 1), (0x60990000, .rdwc19 4),
     (0x60FA0000, .rdwc1A 7), (0x607B0000, .rdwc1B 3),
     (0x60DC0000, .rdwc1C 6), (0x605D0000, .rdwc1D 2),
     (0x60BE0000, .rdwc1E 5), (0x603F0000, .rdwc1F 1)] = true := by decide

/-- The words of `WRBC.00` to `WRBC.07`, alias bits and operands set, written out from the table's encodings (R78). -/
theorem test_decode_wrbc_00_07 : readsAs
    [(0xC0C000A5, .wrbc00 6 0xA5), (0xC04100CA, .wrbc01 2 0xCA),
     (0xC0A200EF, .wrbc02 5 0xEF), (0xC0230014, .wrbc03 1 0x14),
     (0xC0840039, .wrbc04 4 0x39), (0xC0E5005E, .wrbc05 7 0x5E),
     (0xC0660083, .wrbc06 3 0x83), (0xC0C700A8, .wrbc07 6 0xA8)] = true := by decide

/-- The words of `WRBC.08` to `WRBC.0F`, alias bits and operands set, written out from the table's encodings (R78). -/
theorem test_decode_wrbc_08_0F : readsAs
    [(0xC04800CD, .wrbc08 2 0xCD), (0xC0A900F2, .wrbc09 5 0xF2),
     (0xC02A0017, .wrbc0A 1 0x17), (0xC08B003C, .wrbc0B 4 0x3C),
     (0xC0EC0061, .wrbc0C 7 0x61), (0xC06D0086, .wrbc0D 3 0x86),
     (0xC0CE00AB, .wrbc0E 6 0xAB), (0xC04F00D0, .wrbc0F 2 0xD0)] = true := by decide

/-- The words of `WRBC.10` to `WRBC.17`, alias bits and operands set, written out from the table's encodings (R78). -/
theorem test_decode_wrbc_10_17 : readsAs
    [(0xC0B000F5, .wrbc10 5 0xF5), (0xC031001A, .wrbc11 1 0x1A),
     (0xC092003F, .wrbc12 4 0x3F), (0xC0F30064, .wrbc13 7 0x64),
     (0xC0740089, .wrbc14 3 0x89), (0xC0D500AE, .wrbc15 6 0xAE),
     (0xC05600D3, .wrbc16 2 0xD3), (0xC0B700F8, .wrbc17 5 0xF8)] = true := by decide

/-- The words of `WRBC.18` to `WRBC.1F`, alias bits and operands set, written out from the table's encodings (R78). -/
theorem test_decode_wrbc_18_1F : readsAs
    [(0xC038001D, .wrbc18 1 0x1D), (0xC0990042, .wrbc19 4 0x42),
     (0xC0FA0067, .wrbc1A 7 0x67), (0xC07B008C, .wrbc1B 3 0x8C),
     (0xC0DC00B1, .wrbc1C 6 0xB1), (0xC05D00D6, .wrbc1D 2 0xD6),
     (0xC0BE00FB, .wrbc1E 5 0xFB), (0xC03F0020, .wrbc1F 1 0x20)] = true := by decide

/-- The words of `WRWC.00` to `WRWC.07`, alias bits and operands set, written out from the table's encodings (R78). -/
theorem test_decode_wrwc_00_07 : readsAs
    [(0xE0C0C35A, .wrwc00 6 0xC35A), (0xE041CE0F, .wrwc01 2 0xCE0F),
     (0xE0A2D8C4, .wrwc02 5 0xD8C4), (0xE023E379, .wrwc03 1 0xE379),
     (0xE084EE2E, .wrwc04 4 0xEE2E), (0xE0E5F8E3, .wrwc05 7 0xF8E3),
     (0xE0660398, .wrwc06 3 0x0398), (0xE0C70E4D, .wrwc07 6 0x0E4D)] = true := by decide

/-- The words of `WRWC.08` to `WRWC.0F`, alias bits and operands set, written out from the table's encodings (R78). -/
theorem test_decode_wrwc_08_0F : readsAs
    [(0xE0481902, .wrwc08 2 0x1902), (0xE0A923B7, .wrwc09 5 0x23B7),
     (0xE02A2E6C, .wrwc0A 1 0x2E6C), (0xE08B3921, .wrwc0B 4 0x3921),
     (0xE0EC43D6, .wrwc0C 7 0x43D6), (0xE06D4E8B, .wrwc0D 3 0x4E8B),
     (0xE0CE5940, .wrwc0E 6 0x5940), (0xE04F63F5, .wrwc0F 2 0x63F5)] = true := by decide

/-- The words of `WRWC.10` to `WRWC.17`, alias bits and operands set, written out from the table's encodings (R78). -/
theorem test_decode_wrwc_10_17 : readsAs
    [(0xE0B06EAA, .wrwc10 5 0x6EAA), (0xE031795F, .wrwc11 1 0x795F),
     (0xE0928414, .wrwc12 4 0x8414), (0xE0F38EC9, .wrwc13 7 0x8EC9),
     (0xE074997E, .wrwc14 3 0x997E), (0xE0D5A433, .wrwc15 6 0xA433),
     (0xE056AEE8, .wrwc16 2 0xAEE8), (0xE0B7B99D, .wrwc17 5 0xB99D)] = true := by decide

/-- The words of `WRWC.18` to `WRWC.1F`, alias bits and operands set, written out from the table's encodings (R78). -/
theorem test_decode_wrwc_18_1F : readsAs
    [(0xE038C452, .wrwc18 1 0xC452), (0xE099CF07, .wrwc19 4 0xCF07),
     (0xE0FAD9BC, .wrwc1A 7 0xD9BC), (0xE07BE471, .wrwc1B 3 0xE471),
     (0xE0DCEF26, .wrwc1C 6 0xEF26), (0xE05DF9DB, .wrwc1D 2 0xF9DB),
     (0xE0BE0490, .wrwc1E 5 0x0490), (0xE03F0F45, .wrwc1F 1 0x0F45)] = true := by decide

/-! ### The assembler and how a transaction reaches the step -/

/-- The worked lines of the programs P1 to P3: each assembles to the word beside it. -/
theorem test_assembled_words :
    [(Line.rdb 0x2C, 0x00000000), (.rdbc 0x2C 0x07, 0x40070000), (.rdwc 0x2C 0x15, 0x60150000), (.wrs 0x2C 0x14, 0x80000014),
     (.wrbc 0x2C 0x0F 0x90, 0xC00F0090), (.wrwc 0x2C 0x22 0xBEEF, 0xE022BEEF)].all
      (fun p : Line × Descriptor =>
        match p.1.assemble false with | .ok e => e = .transact 0x2C p.2 | .error _ => false) = true := by decide

/-- The syntax of R83. -/
theorem test_line_text : (Line.wrbc 44 3 128).text = "@44 WRBC 3, 128" ∧
    (Line.sensor [.fan0 1500, .temp0 (-5)]).text = "SENSOR fan0=1500, temp0=-5" := by decide

/-- A word placed for the next step runs in it, on a live chip and where there is none yet. -/
theorem test_withFetchWord : (nextOf (step (State.reset.withFetchWord 32 0x60040000))).last = .readWord 0x9595 ∧
    (nextOf (step (gone.withFetchWord 32 0x600F0000))).last = .readWord 0xF8F8 := by decide

/-- The outcomes of R187 in their order, from V8 and V3: the internal `NotApplied` and what the bus sees of it. -/
theorem test_outcomes :
    [transactionOutcome 0x2C 0x60040000 T0, transactionOutcome 0x2C 0xE024FFFF T0, transactionOutcome 0x55 0x60040000 T0,
      transactionOutcome 0x55 0x20000000 T0, transactionOutcome 0x55 0x01000000 T0] =
      [.done (some (.word 0x9595)), .notApplied 0x04, .notDelivered 0x55, .refusedShape 0x20000000,
        .refusedNonCanonical 0x01000000] ∧
    outcomeOf (transact 0x2C 0xE024FFFF T0) = some (.done none) := by decide

/-- With nothing pending a step changes nothing (R27). -/
theorem test_idle_step : nextOf (step T0) = T0 := by decide

/-! ### Unit conversion (V1) -/

theorem test_fan_counts :
    [rpmToReg 0 8, rpmToReg 1 1, rpmToReg 1882 1, rpmToReg 1883 1, rpmToReg 3000 8, rpmToReg 60001 8, rpmToReg 65535 8] =
      [0x00, 0xFF, 0xFF, 0xFE, 0x14, 0x01, 0x01] := by decide
theorem test_temperatures :
    [tempToReg (-200), tempToReg (-120), tempToReg (-119), tempToReg 136, tempToReg 137] =
      [0xAF, 0xFF, 0x00, 0xFF, 0x00] := by decide
theorem test_voltages :
    [voltageToReg 18, voltageToReg 19, voltageToReg 2862, voltageToReg 2863, voltageToReg 4863, voltageToReg 4864,
     voltageToReg 65535, vddToReg 5000, cal 0xFF] = [0x00, 0x01, 0x96, 0x96, 0xFF, 0x00, 0x79, 0xD2, 0x010C] := by decide
theorem test_fan_pack : fanPack 0 8 65535 8 = 0x0001 ∧ fanPack 1882 8 1 8 = 0x1FFF := by decide

/-! ### Read shaping (V2) -/

theorem test_shape : shape 0x02 0x1234 = 0x3434 ∧ shape 0x08 0x1234 = 0x1234 ∧ shape 0x13 0x010C = 0x0C0C ∧
    shape 0x1F 0x00FF = 0xFFFF := by decide
theorem test_aliases_read : readReg 0x29 T0 = 0xDAC5 ∧ readReg 0x24 T0 = 0x9595 := by decide

/-! ### T0 and the lifecycle (V6) -/

theorem test_T0_slots : T0.regs.toList =
    [0x0080, 0x0080, 0, 0, 0x0095, 0x00C7, 0x00C2, 0x1414, 0x6464, 0xDAC5, 0xDAC5, 0xDAC5, 0xDAC5, 0x00BA, 0, 0x00F8,
     0, 0, 0, 0x00A3, 0x00A0, 0x00DF, 0, 0, 0, 0, 0, 0, 0, 0, 0, 0] := by decide
theorem test_T0_rest : T0.sel = 0 ∧ T0.bus = 0x2C ∧ T0.phase = .noPendingSelection ∧ T0.life = .live := by decide
theorem test_create_masks : (nextOf (callHost (.create 0xAC false) bare)).bus = 0x2C ∧
    (nextOf (callHost (.create 0xFF false) bare)).bus = 0x7F := by decide
theorem test_create_fails : nextOf (callHost (.create 0x2C true) bare) = { bare with last := .createFailed } ∧
    (send 0x00000000 (nextOf (callHost (.create 0x2C true) bare))).last = .notDelivered 0x2C := by decide
theorem test_destroy : gone.bus = 0x80 ∧ gone.life = .destroyed ∧
    (send 0x60070000 gone).last = .notDelivered 0x2C := by decide

/-! ### Remap and delivery (V5) -/

theorem test_remap_delivers :
    (nextOf (transact 0x2D 0x60040000 (nextOf (callHost (.remap 0x2D) T0)))).last = .readWord 0x9595 ∧
    (nextOf (transact 0x7F 0x00000000 (nextOf (callHost (.remap 0x7F) T0)))).last = .readByte 0x80 := by decide
theorem test_remap_unbinds : (send 0x00000000 (nextOf (callHost (.remap 0xAC) T0))).last = .notDelivered 0x2C ∧
    (nextOf (transact 0x7F 0x00000000 (nextOf (callHost (.remap 0xFF) T0)))).last = .notDelivered 0x7F := by decide
theorem test_not_delivered : nextOf (transact 0x55 0x60040000 T0) = { T0 with last := .notDelivered 0x55 } := by decide

/-! ### The shapes (V4) -/

theorem test_rdb : (send 0x00000000 T0).last = .readByte 0x80 ∧
    (send 0x00000000 (send 0x80000004 T0)).last = .readByte 0x95 := by decide
theorem test_rdb_low_byte : (send 0x00000000 (send 0x80000009 T0)).last = .readByte 0xC5 ∧
    (send 0x00000000 (send 0x80000027 T0)).last = .readByte 0x14 := by decide
theorem test_wrs : (send 0x800000FF T0).sel = 0xFF ∧ (send 0x800000FF T0).phase = .selectionPending := by decide
theorem test_rdbc : (send 0x40090000 T0).last = .readByte 0xC5 ∧ (send 0x400F0000 T0).last = .readByte 0xF8 := by decide
theorem test_rdwc : (send 0x60090000 T0).last = .readWord 0xDAC5 ∧ (send 0x600D0000 T0).last = .readWord 0xBABA := by
  decide
theorem test_reset_keeps_selection : (send 0xC0030080 (send 0x80000004 T0)).sel = 0x04 ∧
    (send 0xC0030080 (send 0x80000004 T0)).phase = .noPendingSelection := by decide

/-! ### The write classes (V3, W1 to W8) -/

theorem test_read_only : (send 0xE004FFFF T0).regs = T0.regs ∧ (send 0xC02400FF T0).regs = T0.regs := by decide
theorem test_not_applied : (writeReg 0x15 0xFFFF T0).1 = false ∧ (writeReg 0x16 0xFFFF T0).1 = true := by decide
theorem test_mirror : readSlot (send 0xE00A1234 T0).regs 0x13 = 0x0034 ∧
    readSlot (send 0xE02A5678 T0).regs 0x0A = 0x5678 := by decide
theorem test_mirror_byte : readSlot (send 0xC00A0056 T0).regs 0x0A = 0x0056 ∧
    (send 0x60130000 (send 0xC00A0056 T0)).last = .readWord 0x5656 := by decide
theorem test_configuration : readSlot (send 0xC003007F T0).regs 0x03 = 0x007C ∧
    (send 0xE0030100 T0).regs = T0.regs := by decide
theorem test_configuration_reset :
    (send 0xE0030180 (send 0xE002BEEF { T0 with sensors := T0.sensors.update (.temp0 45) })).regs =
      writeSlot T0.regs 0x04 0x00A4 := by decide
theorem test_masked_11 : readSlot (send 0xC01100FF T0).regs 0x11 = 0x007F ∧
    readSlot (send 0xE011ABCD T0).regs 0x11 = 0x004D := by decide
theorem test_byte_write_clears_high : readSlot (send 0xC0080012 T0).regs 0x08 = 0x0012 ∧
    readSlot (send 0xE0081234 T0).regs 0x08 = 0x1234 := by decide
theorem test_verbatim : (send 0x60020000 (send 0xE022BEEF T0)).last = .readWord 0xEFEF ∧
    readSlot (send 0xE01F0001 T0).regs 0x1F = 0x0001 := by decide

/-- The fan recompute under every divisor pair of V3's second table. -/
theorem test_fan_recompute :
    [0x00, 0x40, 0x80, 0xC0, 0x10, 0x20, 0x30, 0xF0, 0x0F, 0xFF].map
      (fun v : Byte => readSlot (nextOf (exec (.wrbc0F 0 v) T0)).regs 0x07) =
      [0xA0A0, 0x50A0, 0x28A0, 0x14A0, 0xA050, 0xA028, 0xA014, 0x1414, 0xA0A0, 0x1414] := by decide
theorem test_divisor_slot : readSlot (send 0xE00F01FF T0).regs 0x0F = 0x00F8 ∧
    readSlot (send 0xC00F000F T0).regs 0x0F = 0x0008 := by decide
theorem test_stopped_and_slow_fans :
    readSlot (send 0xC00F0000 (under ⟨0, 3000, 30, 0, 0, 0⟩)).regs 0x07 = 0x00A0 ∧
    readSlot (send 0xC00F0000 (under ⟨100, 3000, 30, 0, 0, 0⟩)).regs 0x07 = 0xFFA0 := by decide

/-! ### Reset with other readings (V7) -/

/-- Slots 0x04, 0x07, 0x0D, 0x13 and 0x14 after a resetting write under other readings. -/
def readings (S : Sensors) : List Slot :=
  [0x04, 0x07, 0x0D, 0x13, 0x14].map fun i => readSlot (send 0xC0030080 (under S)).regs i

theorem test_reset_readings_1 : readings ⟨0, 65535, -120, 4864, 4845, 0⟩ = [0x00FF, 0x0001, 0x000D, 0x010C, 0x000D] := by
  decide
theorem test_reset_readings_2 : readings ⟨1882, 1, 137, 65535, 18, 19⟩ = [0x0000, 0x1FFF, 0x000E, 0x000D, 0x0086] := by
  decide
theorem test_reset_readings_3 : readings ⟨60001, 30001, -200, 3300, 2863, 4863⟩ =
    [0x00AF, 0x0101, 0x010C, 0x00A3, 0x00BA] := by decide

/-- A changed reading leaves every slot as it was (P2 line 3). -/
theorem test_sensor_update : (nextOf (callHost (.sensor [.fan0 1500]) T0)).regs = T0.regs ∧
    (nextOf (callHost (.sensor [.fan0 1500]) T0)).sensors.fan0 = 1500 := by decide

/-! ### Several chips -/

/-- A platform of three chips, at 0x2C, 0x2D and 0x2E (R3, R153): the first two share a source, the third reads another. -/
def trio : Platform :=
  ⟨[T0.sensors, T0.sensors], [⟨0, T0⟩, ⟨0, { T0 with bus := 0x2D }⟩, ⟨1, { T0 with bus := 0x2E }⟩], .done⟩

/-- The next platform of an outcome. -/
def platformOf (o : PlatformOutcome) : Platform :=
  match o with
  | .next p => p
  | .fault _ => ⟨[], [], .done⟩
  | .refused _ => ⟨[], [], .done⟩

/-- A transaction reaches the chip at its address and no other. -/
theorem test_platform_routes :
    (platformOf (trio.step (.transact 0x2D 0x80000007))).chips.map (fun c => c.state.sel) = [0x00, 0x07, 0x00] := by decide

/-- A reading changed through the first chip is what the second resets from, and not the third (R153, R199; 45 degrees
encode as 0x00A4, W5). -/
theorem test_platform_shared_source :
    [(0x2D : BusAddress), 0x2E].map (fun A =>
      (platformOf ((platformOf (trio.step (.call 0 (.sensor [.temp0 45])))).step (.transact A 0xC0030080))).chips.map
        (fun c => readSlot c.state.regs 0x04)) = [[0x0095, 0x00A4, 0x0095], [0x0095, 0x0095, 0x0095]] := by decide

/-- A second chip at an occupied address is refused (I15). -/
theorem test_platform_shared_address :
    (match trio.step (.call 1 (.remap 0x2C)) with
      | .next _ => none | .fault _ => none | .refused r => some r) = some (.sharedAddress 0x2C) := by decide

/-! ### Witnesses: concrete values that meet each statement's hypotheses, clause by clause -/

/-- T0 with `e` pending. -/
def awaiting (e : Event) (s : State) : State := { s with pending := [e] }

theorem test_witness_EncodeOfDecodeIsTheDescriptor :
    decode 0x00000000 = .ok .rdb ∧ decode 0xE0FFFFFF = .ok (.wrwc1F 7 0xFFFF) := by exact ⟨rfl, rfl⟩

theorem test_witness_RefusedDescriptorsAreExactlyTheMalformed :
    decode 0x20000000 = .error .noSuchShape ∧ decode 0xBFFFFFFF = .error .noSuchShape ∧
    decode 0x41000000 = .error .nonCanonical ∧ decode 0x00800000 = .error .nonCanonical ∧
    decode 0x60008000 = .error .nonCanonical ∧ decode 0xC0008000 = .error .nonCanonical := by
  exact ⟨rfl, rfl, rfl, rfl, rfl, rfl⟩

theorem test_witness_DecodingAgreesWithTheRowPatterns :
    decode 0xC0FF00FF = .ok (.wrbc1F 7 0xFF) ∧
    (0xC0FF00FF : Descriptor) &&& (Instr.wrbc1F 0 0).rowMask = (Instr.wrbc1F 0 0).rowMatch := by
  exact ⟨rfl, by decide⟩

theorem test_witness_TransactionLinesAssemble :
    (Line.wrwc 0x7F 0xFF 0xFFFF).WellFormed = true ∧ (Line.wrwc 0x80 0xFF 0xFFFF).WellFormed = false ∧
    (Line.wrbc 0x7F 0xFF 0xFF).WellFormed = true ∧ (Line.wrbc 0x7F 0x100 0xFF).WellFormed = false := by decide

theorem test_witness_StepRunsTheDecodedInstruction :
    (awaiting (.transact 0x2C 0x800000FF) T0).pending = .transact 0x2C 0x800000FF :: [] ∧
    decode 0x800000FF = .ok (.wrs 0xFF) ∧ T0.life = .live ∧ T0.bus.toNat < 0x80 ∧
    (0x2C : BusAddress).toNat = T0.bus.toNat := by
  exact ⟨rfl, rfl, by decide, by decide, by decide⟩

theorem test_witness_UndeliveredTransactionChangesNothing :
    decode 0x60040000 = .ok (.rdwc04 0) ∧ gone.life ≠ .live ∧
    (nextOf (callHost (.remap 0x80) T0)).bus.toNat ≥ 0x80 ∧ (0x2D : BusAddress).toNat ≠ T0.bus.toNat := by
  exact ⟨rfl, by decide, by decide, by decide⟩

theorem test_witness_MalformedDescriptorIsRefusedFirst :
    (awaiting (.transact 0x55 0x20000000) T0).pending = .transact 0x55 0x20000000 :: [] ∧
    decode 0x20000000 = .error .noSuchShape ∧ decode 0x1F000000 = .error .nonCanonical := by
  exact ⟨rfl, rfl, rfl⟩

theorem test_witness_StepCarriesOutHostOperations :
    T0.pending = [] ∧ (awaiting (.host .destroy) T0).pending = .host .destroy :: [] := by decide

theorem test_witness_EveryTransactionCompletes :
    [Instr.rdb, .rdbc00 0, .rdwc1F 7].all Instr.isRead = true ∧
    [Instr.wrs 0, .wrbc00 0 0, .wrwc1F 7 0xFFFF].all (fun i => !i.isRead) = true := by decide

theorem test_witness_RdbcReturnsTheLowByte :
    (Instr.rdbc00 0).request = .rdbc 0x00 ∧ (Instr.rdbc1F 7).request = .rdbc 0xFF := by decide

theorem test_witness_RdwcReturnsTheShapedWord :
    (Instr.rdwc00 0).request = .rdwc 0x00 ∧ (Instr.rdwc1F 7).request = .rdwc 0xFF := by decide

theorem test_witness_ReadShapingDuplicatesTheLowByte :
    idx 0x07 ∈ ([0x07, 0x08, 0x09, 0x0A, 0x0B, 0x0C] : List Index) ∧
    idx 0xEC ∈ ([0x07, 0x08, 0x09, 0x0A, 0x0B, 0x0C] : List Index) ∧
    idx 0x06 ∉ ([0x07, 0x08, 0x09, 0x0A, 0x0B, 0x0C] : List Index) ∧
    idx 0xED ∉ ([0x07, 0x08, 0x09, 0x0A, 0x0B, 0x0C] : List Index) := by decide

theorem test_witness_AliasedNumbersBehaveAlike : (0x04 : Byte).toNat % 32 = (0xE4 : Byte).toNat % 32 := by decide

theorem test_witness_WriteRegIgnoresReadOnly :
    idx 0x00 ∈ ([0x00, 0x01, 0x04, 0x07, 0x0D, 0x12, 0x13, 0x14, 0x15] : List Index) ∧
    idx 0xF5 ∈ ([0x00, 0x01, 0x04, 0x07, 0x0D, 0x12, 0x13, 0x14, 0x15] : List Index) := by decide

theorem test_witness_WriteRegMirrors0A : idx 0x0A = 0x0A ∧ idx 0xEA = 0x0A := by decide

theorem test_witness_WriteRegResetTrigger :
    idx 0x03 = 0x03 ∧ idx 0xE3 = 0x03 ∧ (0x0080 : Slot).getLsbD 7 = true ∧ (0xFF7F : Slot).getLsbD 7 = false := by decide

theorem test_witness_WriteRegRecomputesFans : idx 0x0F = 0x0F ∧ idx 0xEF = 0x0F := by decide

theorem test_witness_WriteRegMasks11 : idx 0x11 = 0x11 ∧ idx 0xF1 = 0x11 := by decide

theorem test_witness_WriteRegVerbatim :
    idx 0x02 ∉ ([0x00, 0x01, 0x04, 0x07, 0x0D, 0x12, 0x13, 0x14, 0x15, 0x0A, 0x03, 0x0F, 0x11] : List Index) ∧
    idx 0xFF ∉ ([0x00, 0x01, 0x04, 0x07, 0x0D, 0x12, 0x13, 0x14, 0x15, 0x0A, 0x03, 0x0F, 0x11] : List Index) := by decide

theorem test_witness_ReadOnlyWritesComplete :
    (Instr.wrbc00 1 0xFF).writeOperands = some (0x20, 0x00FF) ∧
    (Instr.wrwc15 7 0xFFFF).writeOperands = some (0xF5, 0xFFFF) ∧
    idx 0x20 ∈ ([0x00, 0x01, 0x04, 0x07, 0x0D, 0x12, 0x13, 0x14, 0x15] : List Index) ∧
    idx 0xF5 ∈ ([0x00, 0x01, 0x04, 0x07, 0x0D, 0x12, 0x13, 0x14, 0x15] : List Index) := by decide

theorem test_witness_MirrorWritesComplete :
    (Instr.wrbc0A 0 0xFF).writeOperands = some (0x0A, 0x00FF) ∧ idx 0x0A = 0x0A ∧
    (Instr.wrwc0A 7 0xFFFF).writeOperands = some (0xEA, 0xFFFF) ∧ idx 0xEA = 0x0A := by decide

theorem test_witness_ConfigurationWritesComplete :
    (Instr.wrbc03 0 0x80).writeOperands = some (0x03, 0x0080) ∧ idx 0x03 = 0x03 ∧ (0x0080 : Slot).getLsbD 7 = true ∧
    (Instr.wrwc03 7 0xFF7F).writeOperands = some (0xE3, 0xFF7F) ∧ idx 0xE3 = 0x03 ∧
    (0xFF7F : Slot).getLsbD 7 = false := by decide

theorem test_witness_DivisorWritesComplete :
    (Instr.wrbc0F 0 0xFF).writeOperands = some (0x0F, 0x00FF) ∧ idx 0x0F = 0x0F ∧
    (Instr.wrwc0F 7 0x0000).writeOperands = some (0xEF, 0x0000) ∧ idx 0xEF = 0x0F := by decide

theorem test_witness_MaskedWritesComplete :
    (Instr.wrbc11 0 0x80).writeOperands = some (0x11, 0x0080) ∧ idx 0x11 = 0x11 ∧
    (Instr.wrwc11 7 0xFFFF).writeOperands = some (0xF1, 0xFFFF) ∧ idx 0xF1 = 0x11 := by decide

theorem test_witness_VerbatimWritesComplete :
    (Instr.wrbc02 0 0xFF).writeOperands = some (0x02, 0x00FF) ∧
    idx 0x02 ∈ ([0x02, 0x05, 0x06, 0x08, 0x09, 0x0B, 0x0C, 0x0E, 0x10, 0x16, 0x17, 0x18, 0x19, 0x1A, 0x1B, 0x1C, 0x1D,
      0x1E, 0x1F] : List Index) ∧
    (Instr.wrwc1F 7 0xFFFF).writeOperands = some (0xFF, 0xFFFF) ∧
    idx 0xFF ∈ ([0x02, 0x05, 0x06, 0x08, 0x09, 0x0B, 0x0C, 0x0E, 0x10, 0x16, 0x17, 0x18, 0x19, 0x1A, 0x1B, 0x1C, 0x1D,
      0x1E, 0x1F] : List Index) := by decide

theorem test_witness_TransactionsLeaveTheHostSideAlone :
    exec (.wrbc03 0 0x80) T0 = .next (nextOf (exec (.wrbc03 0 0x80) T0)) := rfl

theorem test_witness_OnlyWrsWritesTheSelection :
    exec (.wrwc03 0 0x80) T0 = .next (nextOf (exec (.wrwc03 0 0x80) T0)) ∧ ∀ v, Instr.wrwc03 0 0x80 ≠ .wrs v :=
  ⟨rfl, fun _ h => Instr.noConfusion h⟩

theorem test_witness_ReadsWriteNoSlot :
    (Instr.rdwc07 0).isRead = true ∧ exec (.rdwc07 0) T0 = .next (nextOf (exec (.rdwc07 0) T0)) := ⟨rfl, rfl⟩

/-- A mirroring write seen from a slot that is neither its own nor the mirror, and a write to 0x03 without the reset bit. -/
theorem test_witness_WritesChangeOnlyTheirSlots :
    ((Instr.wrwc0A 0 0xFFFF).writeOperands = some (0x0A, 0xFFFF) ∧
      exec (.wrwc0A 0 0xFFFF) T0 = .next (nextOf (exec (.wrwc0A 0 0xFFFF) T0)) ∧ (0x07 : Index) ≠ idx 0x0A ∧
      ¬ (idx 0x0A = 0x0A ∧ (0x07 : Index) = 0x13) ∧ ¬ (idx 0x0A = 0x0F ∧ (0x07 : Index) = 0x07) ∧
      ¬ (idx 0x0A = 0x03 ∧ (0xFFFF : Slot).getLsbD 7 = true)) ∧
    ((Instr.wrwc03 0 0xFF7F).writeOperands = some (0x03, 0xFF7F) ∧
      exec (.wrwc03 0 0xFF7F) T0 = .next (nextOf (exec (.wrwc03 0 0xFF7F) T0)) ∧ (0x13 : Index) ≠ idx 0x03 ∧
      ¬ (idx 0x03 = 0x0A ∧ (0x13 : Index) = 0x13) ∧ ¬ (idx 0x03 = 0x0F ∧ (0x13 : Index) = 0x07) ∧
      ¬ (idx 0x03 = 0x03 ∧ (0xFF7F : Slot).getLsbD 7 = true)) :=
  ⟨⟨by decide, rfl, by decide, by decide, by decide, by decide⟩,
   ⟨by decide, rfl, by decide, by decide, by decide, by decide⟩⟩

theorem test_witness_PhaseFollowsTheTransaction :
    exec .rdb (send 0x80000004 T0) = .next (nextOf (exec .rdb (send 0x80000004 T0))) ∧
    (nextOf (exec .rdb (send 0x80000004 T0))).phase = .selectionPending := ⟨rfl, by decide⟩

theorem test_witness_FanCountIsClamped :
    1 ≤ 8 ∧ 1 ≤ 1882 ∧ 1882 * 1 ≤ 1882 ∧ 60001 * 8 > 480000 ∧ 60001 ≤ readingMax ∧ 8 ∈ [1, 2, 4, 8] ∧ rpmToReg 0 8 = 0 := by
  decide

/-- Each clause at its limits: a product of 1882 and of 1883, of 240000 and of 240001. -/
theorem test_witness_FanCountClosedForm :
    1882 * 1 ≤ 1882 ∧ rpmToReg 1882 1 = 255 ∧ rpmToReg 1883 1 = 254 ∧ 480000 / (254 + 1) < 1883 ∧ 1883 ≤ 480000 / 254 ∧
    rpmToReg 30000 8 = 2 ∧ rpmToReg 30001 8 = 1 := by decide

theorem test_witness_TemperatureWrapsModulo256 : (-119 : Int) ≤ -119 ∧ (136 : Int) ≤ 136 ∧ tempToReg (-120) = 255 := by
  decide

theorem test_witness_VoltageTruncatesAndWraps : 4863 < 4864 ∧ voltageToReg 4863 = 255 := by decide

theorem test_witness_SupplyTruncatesAndWraps : 6079 < 6080 ∧ vddToReg 6079 = 255 := by decide

theorem test_witness_CreateMakesALiveBoundChip :
    bare.life ≠ .live ∧ gone.life ≠ .live ∧ bare.params.WellFormed = true ∧ gone.params.WellFormed = true ∧
    bare.sensors.WellFormed = true ∧ gone.sensors.WellFormed = true := by decide

theorem test_witness_VariantsDifferOnlyInTheirAddress : bare.life ≠ .live ∧ bare.params.WellFormed = true ∧
    bare.sensors.WellFormed = true ∧
    (nextOf (createVariant .at2D false bare)).bus = 0x2D := by decide

theorem test_witness_FailedCreateLeavesNothing : bare.life ≠ .live ∧ bare.params.WellFormed = true ∧
    bare.sensors.WellFormed = true := by decide

theorem test_witness_ResetStateIsTheCreatedChip : (⟨65535, 65535, -200, 65535, 65535, 65535⟩ : Sensors).WellFormed = true := by
  decide

theorem test_witness_DestroyUnbindsTheChip :
    T0.life = .live ∧ callHost .destroy T0 = .next (nextOf (callHost .destroy T0)) := ⟨by decide, rfl⟩

theorem test_witness_RemapMovesDelivery :
    T0.life = .live ∧ callHost (.remap 0x7F) T0 = .next (nextOf (callHost (.remap 0x7F) T0)) ∧
    callHost (.remap 0x80) T0 = .next (nextOf (callHost (.remap 0x80) T0)) := ⟨by decide, rfl, rfl⟩

theorem test_witness_SensorUpdateLeavesTheChipAlone :
    [Reading.fan0 65535, .volt2 0, .temp0 (-200)].all Reading.WellFormed = true := by decide

theorem test_witness_HostBreachesAreRefused :
    T0.life = .live ∧ bare.life ≠ .live ∧ bare.params.WellFormed = true ∧
    (⟨65536, 0, 0, 0, 0, 0⟩ : Sensors).WellFormed = false ∧ ({ vectorParams with fandivReset := 0x0000 } : Params).WellFormed = false ∧
    [Reading.temp0 0, .fan0 65536].all Reading.WellFormed = false := by decide

/-- T0 meets the invariant. -/
theorem test_T0_inv : T0.Inv where
  paramsOk := by decide
  sensorsOk := by decide
  snapshotOk := by decide
  fanSnapshotOk := by decide
  unbound := by decide
  slotsOk := fun _ =>
    { configuration := by decide, divisors := by decide, slot11 := by decide, fans := by decide, temperature := by decide
      rail0 := by decide, rail1 := by decide, rail2 := by decide, vdd := by decide, slot12 := by decide
      identity := by decide }

/-- T0 with a resetting write pending meets the invariant and steps. -/
theorem test_witness_StepKeepsTheInvariant :
    (awaiting (.transact 0x2C 0xC0030080) T0).Inv ∧
    step (awaiting (.transact 0x2C 0xC0030080) T0) = .next (nextOf (step (awaiting (.transact 0x2C 0xC0030080) T0))) :=
  ⟨⟨test_T0_inv.1, test_T0_inv.2, test_T0_inv.3, test_T0_inv.4, test_T0_inv.5, fun h =>
     let c := test_T0_inv.6 h
     ⟨c.1, c.2, c.3, c.4, c.5, c.6, c.7, c.8, c.9, c.10, c.11⟩⟩, rfl⟩

/-- Two states that look alike and are not equal: a high byte, bits 7:5 of `sel`, and the phase differ; a read is pending. -/
theorem test_witness_HiddenStateIsNeverObserved :
    SameView (awaiting (.transact 0x2C 0x60020000) T0)
      { awaiting (.transact 0x2C 0x60020000) T0 with
        regs := writeSlot T0.regs 0x02 0xAB00, sel := 0xE0, phase := .selectionPending } ∧
    observations 1 (awaiting (.transact 0x2C 0x60020000) T0) = [.readWord 0x0000] := by
  exact ⟨⟨by decide, by decide, by decide, by decide, by decide, by decide, by decide, by decide⟩, by decide⟩

theorem test_witness_VerbatimSlotsReadBack :
    (Instr.wrwc02 1 0xBEEF).writeOperands = some (0x22, 0xBEEF) ∧ (Instr.rdwc02 7).request = .rdwc 0xE2 ∧
    idx 0xE2 = idx 0x22 ∧
    idx 0x22 ∈ ([0x02, 0x05, 0x06, 0x08, 0x09, 0x0B, 0x0C, 0x0E, 0x10, 0x16, 0x17, 0x18, 0x19, 0x1A, 0x1B, 0x1C, 0x1D,
      0x1E, 0x1F] : List Index) ∧
    exec (.wrwc02 1 0xBEEF) T0 = .next (nextOf (exec (.wrwc02 1 0xBEEF) T0)) :=
  ⟨by decide, by decide, by decide, by decide, rfl⟩

theorem test_witness_WriteBackKeepsTheMaskedSlots :
    T0.SlotsConsistent ∧ idx 0x03 ∈ ([0x03, 0x0F, 0x11] : List Index) ∧ idx 0xEF ∈ ([0x03, 0x0F, 0x11] : List Index) ∧
    idx 0x31 ∈ ([0x03, 0x0F, 0x11] : List Index) :=
  ⟨test_T0_inv.slotsOk (by decide), by decide, by decide, by decide⟩

theorem test_witness_SensorChangesAreNotReadDirectly :
    (Instr.rdwc04 0).isRead = true ∧
    callHost (.sensor [.temp0 45]) T0 = .next (nextOf (callHost (.sensor [.temp0 45]) T0)) ∧
    exec (.rdwc04 0) T0 = .next (nextOf (exec (.rdwc04 0) T0)) := ⟨rfl, rfl, rfl⟩

/-- Three chips at three addresses are apart. -/
theorem trio_apart : trio.Apart := by
  intro j k c e hj hk _ _ _ hbus
  have chip : ∀ (m : Nat) (c : Attached), trio.chips[m]? = some c →
      m = 0 ∧ c.state.bus = 0x2C ∨ m = 1 ∧ c.state.bus = 0x2D ∨ m = 2 ∧ c.state.bus = 0x2E := by
    intro m c h
    match m, h with
    | 0, h => cases h; exact .inl ⟨rfl, rfl⟩
    | 1, h => cases h; exact .inr (.inl ⟨rfl, rfl⟩)
    | 2, h => cases h; exact .inr (.inr ⟨rfl, rfl⟩)
  obtain ⟨rfl, h⟩ | ⟨rfl, h⟩ | ⟨rfl, h⟩ := chip j c hj <;>
    obtain ⟨rfl, h'⟩ | ⟨rfl, h'⟩ | ⟨rfl, h'⟩ := chip k e hk <;> first
    | rfl
    | (rw [h, h'] at hbus; exact absurd hbus (by decide))

/-- For each clause, a step of the three chips: a transaction delivered, one no chip answers, a host operation on a chip with
a shared source and a chip of another source, a chip attached, a source provided. -/
theorem test_witness_ChipsDoNotDisturbEachOther :
    (trio.Apart ∧ decode 0x80000007 = .ok (.wrs 0x07) ∧ trio.chips[1]? = some ⟨0, { T0 with bus := 0x2D }⟩ ∧
      ({ T0 with bus := 0x2D } : State).answers 0x2D = true) ∧
    (∀ c ∈ trio.chips, c.state.answers 0x55 = false) ∧
    (trio.step (.transact 0x2D 0x80000007) = .next (platformOf (trio.step (.transact 0x2D 0x80000007))) ∧
      trio.chips[0]? = some ⟨0, T0⟩ ∧ T0.answers 0x2D = false) ∧
    (trio.clash 0 (.remap 0x7F) = none ∧
      callHost (.remap 0x7F) (trio.view ⟨0, T0⟩) = .next (nextOf (callHost (.remap 0x7F) (trio.view ⟨0, T0⟩))) ∧
      0 < trio.sources.length) ∧
    (trio.step (.call 1 .destroy) = .next (platformOf (trio.step (.call 1 .destroy))) ∧ (0 : Nat) ≠ 1) ∧
    trio.step (.attach vectorParams 1) = .next (platformOf (trio.step (.attach vectorParams 1))) ∧
    trio.step (.provide T0.sensors) = .next (platformOf (trio.step (.provide T0.sensors))) :=
  ⟨⟨trio_apart, rfl, rfl, by decide⟩, by decide, ⟨rfl, rfl, by decide⟩, ⟨by decide, rfl, by decide⟩, ⟨rfl, by decide⟩, rfl,
    rfl⟩

/-- Chips at different addresses, and a remap of one that succeeds. -/
theorem test_witness_PlatformStaysApart :
    trio.Apart ∧ trio.step (.call 1 (.remap 0x2F)) = .next (platformOf (trio.step (.call 1 (.remap 0x2F)))) :=
  ⟨trio_apart, rfl⟩

end Sys2Proof.Tests
end

section
/-! PROOFS. The unit-conversion library (40_conversion.md): one spec lemma per conversion function, the bytes of a slot as
quotient and remainder, and the statements of R91 to R97. -/

namespace Sys2Proof.Laws

open Sys2Proof.Machine

/-! ### The bytes and bit fields of a slot as numbers -/

theorem toNat_highByte (x : Slot) : (highByte x).toNat = x.toNat / 256 := by
  have hx : x.toNat < 65536 := x.isLt
  rw [highByte, BitVec.extractLsb'_toNat, Nat.shiftRight_eq_div_pow]
  omega

theorem toNat_lowByte (x : Slot) : (lowByte x).toNat = x.toNat % 256 := by
  simp [lowByte, BitVec.extractLsb'_toNat]

/-- A value that fits 16 bits is stored whole. -/
theorem toNat_toSlot {v : Nat} (h : v < 65536) : (toSlot v).toNat = v :=
  Nat.mod_eq_of_lt h

theorem fan0Exponent_eq (x : Slot) : fan0Exponent x = x.toNat / 64 % 4 := by
  rw [fan0Exponent, BitVec.extractLsb'_toNat, Nat.shiftRight_eq_div_pow]

theorem fan1Exponent_eq (x : Slot) : fan1Exponent x = x.toNat / 16 % 4 := by
  rw [fan1Exponent, BitVec.extractLsb'_toNat, Nat.shiftRight_eq_div_pow]

/-! ### The fan count (R91) -/

theorem clamp_eq_max_min (x : Nat) {lo hi : Nat} (h : lo ≤ hi) : clamp x lo hi = max lo (min hi x) := by
  unfold clamp
  split
  · omega
  · split <;> omega

@[simp] theorem rpmToReg_zero (d : Nat) : rpmToReg 0 d = 0 := if_pos rfl

theorem rpmToReg_of_pos {rpm : Nat} (d : Nat) (h : 1 ≤ rpm) :
    rpmToReg rpm d = max 1 (min 255 (480000 / (rpm * d))) := by
  rw [rpmToReg, if_neg (by omega), clamp_eq_max_min _ (by decide)]

theorem rpmToReg_eq_zero_iff (rpm d : Nat) : rpmToReg rpm d = 0 ↔ rpm = 0 := by
  constructor
  · intro h
    by_contra h0
    rw [rpmToReg_of_pos d (by omega)] at h
    omega
  · rintro rfl
    exact rpmToReg_zero d

/-- A fan count is a byte, whatever the speed and the divisor. -/
theorem rpmToReg_lt (rpm d : Nat) : rpmToReg rpm d < 256 := by
  by_cases h : rpm = 0
  · simp [h]
  · rw [rpmToReg_of_pos d (by omega)]
    omega

theorem rpmToReg_eq_255_of_le {rpm d : Nat} (hr : 1 ≤ rpm) (hd : 1 ≤ d) (h : rpm * d ≤ 1882) :
    rpmToReg rpm d = 255 := by
  have hq : 255 ≤ 480000 / (rpm * d) :=
    (Nat.le_div_iff_mul_le (Nat.mul_pos hr hd)).2 (by omega)
  rw [rpmToReg_of_pos d hr]
  omega

theorem rpmToReg_eq_one_of_gt {rpm d : Nat} (h : rpm * d > 480000) : rpmToReg rpm d = 1 := by
  have hr : 1 ≤ rpm := Nat.pos_of_mul_pos_right (by omega : 0 < rpm * d)
  rw [rpmToReg_of_pos d hr, Nat.div_eq_of_lt h]
  decide

/-- Within the domains the quotient is 0 only under divisor 8, from 60001 rpm on: the other divisors reach at most
`65535 * 4`. -/
theorem quotient_zero_needs_divisor_eight {rpm d : Nat} (hr : rpm ≤ readingMax) (hd : d ∈ [1, 2, 4, 8])
    (h : rpm * d > 480000) : d = 8 ∧ 60001 ≤ rpm := by
  have hr' : rpm ≤ 65535 := hr
  simp only [List.mem_cons, List.not_mem_nil, or_false] at hd
  obtain rfl | rfl | rfl | rfl := hd <;> omega

/-- Settles O35: `rpmToReg_of_pos` gives the clamped quotient, and each corner case is a bound on that quotient. -/
theorem fanCountIsClamped : Obligations.FanCountIsClamped := fun rpm d hd =>
  ⟨rpmToReg_eq_zero_iff rpm d, rpmToReg_of_pos d, fun hr => rpmToReg_eq_255_of_le hr hd, rpmToReg_eq_one_of_gt,
    quotient_zero_needs_divisor_eight⟩

/-! ### The packed fan slot (R97) -/

/-- The low count is a byte, so the two counts share no bit and the packed value is their sum. -/
theorem fanPack_eq (f0 d0 f1 d1 : Nat) : fanPack f0 d0 f1 d1 = rpmToReg f0 d0 * 256 + rpmToReg f1 d1 := by
  rw [fanPack, ← Nat.shiftLeft_add_eq_or_of_lt (rpmToReg_lt f1 d1), Nat.shiftLeft_eq]

theorem fanPack_lt (f0 d0 f1 d1 : Nat) : fanPack f0 d0 f1 d1 < 65536 := by
  have h0 := rpmToReg_lt f0 d0
  have h1 := rpmToReg_lt f1 d1
  rw [fanPack_eq]
  omega

/-- Settles O41: the packed value is `256 * count0 + count1` with both counts below 256, so the bytes of the slot are its
quotient and its remainder. -/
theorem fanPackKeepsBothCounts : Obligations.FanPackKeepsBothCounts := by
  intro f0 d0 f1 d1
  have h1 := rpmToReg_lt f1 d1
  refine ⟨fanPack_lt f0 d0 f1 d1, ?_, ?_⟩
  · rw [toNat_highByte, toNat_toSlot (fanPack_lt ..), fanPack_eq]
    omega
  · rw [toNat_lowByte, toNat_toSlot (fanPack_lt ..), fanPack_eq]
    omega

/-! ### Temperature, voltages and divisors (R92 to R95) -/

/-- The encoding of a temperature, read as an integer, is the residue of `t + 119`. -/
theorem coe_tempToReg (t : Int) : (tempToReg t : Int) = (t + 119) % 256 :=
  Int.toNat_of_nonneg (Int.emod_nonneg _ (by decide))

/-- Settles O37: every clause is a fact about the residue `coe_tempToReg` names. -/
theorem temperatureWrapsModulo256 : Obligations.TemperatureWrapsModulo256 := by
  intro t
  have ht := coe_tempToReg t
  have hp := coe_tempToReg (t + 256)
  refine ⟨?_, ?_, ?_, fun hlo hhi => ?_⟩ <;> omega

theorem voltageToReg_lt (v : Nat) : voltageToReg v < 256 := Nat.mod_lt _ (by decide)

theorem voltageToReg_of_lt {v : Nat} (h : v < 4864) : voltageToReg v = v / 19 :=
  Nat.mod_eq_of_lt (Nat.div_lt_of_lt_mul h)

/-- The period is `4864 = 19 * 256`: it adds 256 to the quotient, which the mask drops. -/
theorem voltageToReg_add_period (v : Nat) : voltageToReg (v + 4864) = voltageToReg v := by
  have hq : (v + 4864) / 19 = v / 19 + 256 := by omega
  rw [voltageToReg, hq, Nat.add_mod_right, voltageToReg]

/-- Settles O38. -/
theorem voltageTruncatesAndWraps : Obligations.VoltageTruncatesAndWraps := fun v =>
  ⟨voltageToReg_lt v, voltageToReg_of_lt, voltageToReg_add_period v⟩

theorem vddToReg_lt (v : Nat) : vddToReg v < 256 := Nat.mod_lt _ (by decide)

theorem vddToReg_of_lt {v : Nat} (h : v < 6080) : vddToReg v = v * 4 / 95 :=
  Nat.mod_eq_of_lt (Nat.div_lt_of_lt_mul (by omega))

/-- The period is 6080 because `6080 * 4 = 95 * 256`: it adds 256 to the quotient, which the mask drops. -/
theorem vddToReg_add_period (v : Nat) : vddToReg (v + 6080) = vddToReg v := by
  have hq : (v + 6080) * 4 / 95 = v * 4 / 95 + 256 := by omega
  rw [vddToReg, hq, Nat.add_mod_right, vddToReg]

/-- Settles O39. -/
theorem supplyTruncatesAndWraps : Obligations.SupplyTruncatesAndWraps :=
  ⟨fun v => ⟨vddToReg_lt v, vddToReg_of_lt, vddToReg_add_period v⟩, by decide⟩

/-- Settles O42: the exponents are the two bit fields as quotients, and `fanDiv` is the power of two. -/
theorem divisorsDecodeFromTheirBits : Obligations.DivisorsDecodeFromTheirBits := fun x =>
  ⟨fan0Exponent_eq x, fan1Exponent_eq x, congrArg fanDiv (fan0Exponent_eq x), congrArg fanDiv (fan1Exponent_eq x), rfl⟩

end Sys2Proof.Laws
end

section
/-! PROOFS. The register file (41_register_file.md): read shaping, `WriteReg` class by class, and the selection's frame;
the statements of R113 and R117 to R123. -/

namespace Sys2Proof.Laws

open Sys2Proof.Machine

/-! ### Read shaping (R113) -/

theorem isTwoByte_iff_mem (i : Index) :
    isTwoByte i = true ↔ i ∈ ([0x07, 0x08, 0x09, 0x0A, 0x0B, 0x0C] : List Index) := by
  simp [isTwoByte, or_assoc]

theorem shape_of_twoByte {i : Index} (x : Slot) (h : isTwoByte i = true) : shape i x = x := if_pos h

/-- Masking with 0xFF is the zero-extended low byte. -/
theorem and_0xFF_eq_zext16_lowByte (x : Slot) : x &&& 0xFF = zext16 (lowByte x) := by
  apply BitVec.eq_of_toNat_eq
  have hmask : x.toNat &&& 0xFF = x.toNat % 256 := Nat.and_two_pow_sub_one_eq_mod x.toNat 8
  have hb : (lowByte x).toNat < 65536 := by have := (lowByte x).isLt; omega
  calc (x &&& 0xFF).toNat
    _ = x.toNat % 256 := hmask
    _ = (lowByte x).toNat := (toNat_lowByte x).symm
    _ = (zext16 (lowByte x)).toNat := by rw [zext16, BitVec.toNat_setWidth, Nat.mod_eq_of_lt hb]

/-- A byte put in both halves of a slot is read back from either half. -/
theorem bytes_of_doubled (b : Byte) :
    lowByte (zext16 b ||| (zext16 b <<< 8)) = b ∧ highByte (zext16 b ||| (zext16 b <<< 8)) = b := by
  revert b; decide

/-- Outside the two-byte set a read is one byte, the stored low byte, put in both halves. -/
theorem shape_of_not_twoByte {i : Index} (x : Slot) (h : ¬ isTwoByte i = true) :
    shape i x = zext16 (lowByte x) ||| (zext16 (lowByte x) <<< 8) := by
  rw [shape, if_neg h, and_0xFF_eq_zext16_lowByte]

/-- Settles O16: inside the two-byte set `shape` is the identity; outside it both halves hold the stored low byte. -/
theorem readShapingDuplicatesTheLowByte : Obligations.ReadShapingDuplicatesTheLowByte := by
  intro n s
  refine ⟨fun h => shape_of_twoByte _ ((isTwoByte_iff_mem _).2 h), fun h => ?_⟩
  rw [readReg, shape_of_not_twoByte _ (mt (isTwoByte_iff_mem _).1 h)]
  exact bytes_of_doubled _

/-! ### `WriteReg`, class by class (R117 to R122) -/

theorem isReadOnly_iff_mem (i : Index) : isReadOnly i = true ↔
    i ∈ ([0x00, 0x01, 0x04, 0x07, 0x0D, 0x12, 0x13, 0x14, 0x15] : List Index) := by
  simp [isReadOnly, or_assoc]

theorem writeClass_readOnly {i : Index} (h : isReadOnly i = true) : writeClass i = .readOnly := if_pos h

/-- The verbatim class is every index that no other class names (R122). -/
theorem writeClass_verbatim {i : Index}
    (h : i ∉ ([0x00, 0x01, 0x04, 0x07, 0x0D, 0x12, 0x13, 0x14, 0x15, 0x0A, 0x03, 0x0F, 0x11] : List Index)) :
    writeClass i = .verbatim := by
  obtain ⟨hro, hrest⟩ : ¬ isReadOnly i = true ∧ i ∉ ([0x0A, 0x03, 0x0F, 0x11] : List Index) := by
    rw [isReadOnly_iff_mem, ← not_or, ← List.mem_append]
    exact h
  simp only [List.mem_cons, List.not_mem_nil, or_false, not_or] at hrest
  obtain ⟨hA, h3, hF, h11⟩ := hrest
  rw [writeClass, if_neg hro, if_neg hA, if_neg h3, if_neg hF, if_neg h11]

/-- `WriteReg` is applied by its class and leaves what `storeReg` leaves; the index decides both (R116). -/
theorem writeReg_of_idx {n : Byte} {i : Index} (v : Slot) (s : State) (h : idx n = i) :
    writeReg n v s = ((writeClass i).applied, storeReg i v s) := by
  rw [writeReg, h]

/-- Settles O18. -/
theorem writeRegIgnoresReadOnly : Obligations.WriteRegIgnoresReadOnly := by
  intro n v s h
  have hro : isReadOnly (idx n) = true := (isReadOnly_iff_mem _).2 h
  rw [writeReg_of_idx v s rfl, writeClass_readOnly hro, storeReg_readOnly v s hro]
  rfl

/-- Settles O19. -/
theorem writeRegMirrors0A : Obligations.WriteRegMirrors0A := by
  intro n v s h
  rw [writeReg_of_idx v s h, storeReg_0A]
  rfl

/-- Settles O20: `storeReg_03` gives the slots on either side of the trigger, and `storeReg_frame` the rest. -/
theorem writeRegResetTrigger : Obligations.WriteRegResetTrigger := by
  intro n v s h
  obtain ⟨hsel, hbus, hphase, hlife, hsensors, -⟩ := storeReg_frame v s 0x03
  refine ⟨storeReg 0x03 v s, writeReg_of_idx v s h, ?_, hsel, hbus, hphase, hlife, hsensors⟩
  rw [storeReg_03, resetBit]
  split <;> simp

/-- The mask 0xF8 keeps bits 7:4, so the stored value decodes to the divisors of the incoming one (R120). -/
theorem fan0Exponent_and_0xF8 (v : Slot) : fan0Exponent (v &&& 0xF8) = fan0Exponent v := by
  have hmask : (0xF8 : Slot).extractLsb' 6 2 = BitVec.allOnes 2 := by decide
  rw [fan0Exponent, BitVec.extractLsb'_and, hmask, BitVec.and_allOnes, fan0Exponent]

theorem fan1Exponent_and_0xF8 (v : Slot) : fan1Exponent (v &&& 0xF8) = fan1Exponent v := by
  have hmask : (0xF8 : Slot).extractLsb' 4 2 = BitVec.allOnes 2 := by decide
  rw [fan1Exponent, BitVec.extractLsb'_and, hmask, BitVec.and_allOnes, fan1Exponent]

/-- A recompute from the stored bits is one from the incoming value. -/
theorem fanSlot_and_0xF8 (v : Slot) (f0 f1 : Nat) : fanSlot (v &&& 0xF8) f0 f1 = fanSlot v f0 f1 := by
  rw [fanSlot, fan0Exponent_and_0xF8, fan1Exponent_and_0xF8, fanSlot]

/-- The register array a write to 0x0F leaves, its divisors taken from the incoming value (R120). -/
theorem storeReg_0F_regs (v : Slot) (s : State) : (storeReg 0x0F v s).regs =
    writeSlot (writeSlot s.regs 0x0F (v &&& 0xF8)) 0x07 (fanSlot v s.sensors.fan0 s.sensors.fan1) := by
  rw [storeReg_0F, recomputeFans_regs, setReg_regs, setReg_sensors, readSlot_writeSlot_same, fanSlot_and_0xF8]

/-- Settles O21: `storeReg_0F_regs` gives the slots, and `storeReg_frame` the rest. -/
theorem writeRegRecomputesFans : Obligations.WriteRegRecomputesFans := by
  intro n v s h
  obtain ⟨hsel, hbus, hphase, hlife, hsensors, -⟩ := storeReg_frame v s 0x0F
  exact ⟨storeReg 0x0F v s, writeReg_of_idx v s h, storeReg_0F_regs v s, hsel, hbus, hphase, hlife, hsensors⟩

/-- Settles O22. -/
theorem writeRegMasks11 : Obligations.WriteRegMasks11 := by
  intro n v s h
  rw [writeReg_of_idx v s h, storeReg_11]
  rfl

/-- Settles O23. -/
theorem writeRegVerbatim : Obligations.WriteRegVerbatim := by
  intro n v s h
  have hv : writeClass (idx n) = .verbatim := writeClass_verbatim h
  rw [writeReg_of_idx v s rfl, hv, storeReg_verbatim v s hv]
  rfl

/-! ### The selection (R123) -/

theorem storeReg_sel (i : Index) (v : Slot) (s : State) : (storeReg i v s).sel = s.sel :=
  (storeReg_frame v s i).1

/-- `WRS` is the only instruction of its shape. -/
theorem eq_wrs_of_request {i : Instr} {v : Byte} (h : i.request = .wrs v) : i = .wrs v := by
  rw [← ofRequest_request i, h]
  rfl

/-- Settles O31: of the five shapes of `exec_cases`, the three reads leave `sel` in place, `WRS` is excluded, and a
write leaves it where `storeReg` does. -/
theorem onlyWrsWritesTheSelection : Obligations.OnlyWrsWritesTheSelection := by
  refine ⟨fun i s t ht hne => ?_, fun n v s => storeReg_sel (idx n) v s⟩
  obtain ⟨-, h⟩ | ⟨n, -, h⟩ | ⟨n, -, h⟩ | ⟨v, hr, -⟩ | ⟨n, v, -, h⟩ := exec_cases i s
  · cases h.symm.trans ht
    rfl
  · cases h.symm.trans ht
    rfl
  · cases h.symm.trans ht
    rfl
  · exact absurd (eq_wrs_of_request hr) (hne v)
  · cases h.symm.trans ht
    exact storeReg_sel (idx n) v s

end Sys2Proof.Laws
end


section
/-! PROOFS. The bus protocol adapter (42_bus_adapter.md): a descriptor as the union of its fields, the result of a read
and of a write, and the statements of R143, R144 and R152. -/

namespace Sys2Proof.Laws

open Sys2Proof.Machine

/-! ### A descriptor as the union of its fields (R71, R84) -/

/-- The header, the command byte and the data share no bit, so the packed descriptor is their union. -/
theorem pack_eq_or (D C W : Bool) (cmd : Byte) (data : Slot) :
    pack D C W cmd data = pack D C W 0 0 ||| (cmd.setWidth 32 <<< 16) ||| data.setWidth 32 := by
  apply BitVec.eq_of_getLsbD_eq
  intro k hk
  simp only [BitVec.getLsbD_or, BitVec.getLsbD_shiftLeft, BitVec.getLsbD_setWidth, getLsbD_pack]
  by_cases hdata : k < 16
  · simp [hdata, hk]
  by_cases hcmd : k - 16 < 8
  · have hk' : k - 16 < 32 := by omega
    simp [hdata, hcmd, hk, hk', BitVec.getLsbD_of_ge data k (by omega)]
  · simp [hdata, hcmd, BitVec.getLsbD_of_ge data k (by omega), BitVec.getLsbD_of_ge cmd (k - 16) (by omega)]

theorem encodeRequest_rdwc (n : Byte) :
    encodeRequest (.rdwc n) = (0x60000000 : Descriptor) ||| (n.setWidth 32 <<< 16) := by
  have hheader : pack false true true 0 0 = (0x60000000 : Descriptor) := by decide
  have hdata : BitVec.setWidth 32 (0 : Slot) = 0#32 := by decide
  rw [encodeRequest, pack_eq_or, hheader, hdata, BitVec.or_zero]

theorem encodeRequest_wrs (v : Byte) : encodeRequest (.wrs v) = (0x80000000 : Descriptor) ||| v.setWidth 32 := by
  have hheader : pack true false false 0 0 ||| (BitVec.setWidth 32 (0 : Byte) <<< 16) = (0x80000000 : Descriptor) := by
    decide
  rw [encodeRequest, pack_eq_or, hheader, zext16, BitVec.setWidth_setWidth (by decide)]

/-! ### What a read and a write answer (R141 to R146) -/

/-- A read changes at most the phase and leaves the value it returns. -/
theorem exec_of_isRead {i : Instr} (s : State) (h : i.isRead = true) :
    ∃ p r, exec i s = .next { s with phase := p, last := r } ∧ r.isRead = true := by
  rw [exec_eq_respond]
  unfold Instr.isRead at h
  cases hr : i.request with
  | rdb => exact ⟨s.phase, _, rfl, rfl⟩
  | rdbc n => exact ⟨.noPendingSelection, _, rfl, rfl⟩
  | rdwc n => exact ⟨.noPendingSelection, _, rfl, rfl⟩
  | wrs v => rw [hr] at h; cases h
  | wrbc n v => rw [hr] at h; cases h
  | wrwc n v => rw [hr] at h; cases h

/-- A write, `WRS` included, is done: the `applied` result of `WriteReg` has no part in its outcome (R125). -/
theorem exec_of_isRead_eq_false {i : Instr} (s : State) (h : i.isRead = false) :
    ∃ t, exec i s = .next t ∧ t.last = .done := by
  rw [exec_eq_respond]
  unfold Instr.isRead at h
  cases hr : i.request with
  | rdb => rw [hr] at h; cases h
  | rdbc n => rw [hr] at h; cases h
  | rdwc n => rw [hr] at h; cases h
  | wrs v => exact ⟨_, rfl, rfl⟩
  | wrbc n v => exact ⟨_, rfl, rfl⟩
  | wrwc n v => exact ⟨_, rfl, rfl⟩

/-- Settles O11: an instruction is a read, which returns a value, or a write, which is done. -/
theorem everyTransactionCompletes : Obligations.EveryTransactionCompletes := by
  intro i s
  cases hi : i.isRead with
  | true =>
    obtain ⟨p, r, hexec, hr⟩ := exec_of_isRead s hi
    exact ⟨_, hexec, fun _ => hr, nofun⟩
  | false =>
    obtain ⟨t, hexec, ht⟩ := exec_of_isRead_eq_false s hi
    exact ⟨t, hexec, nofun, fun _ => ht⟩

/-! ### Word reads and the selection (R143, R144) -/

/-- Settles O14: the descriptor and the handler are those of the transaction `RDWC n`. -/
theorem rdwcReturnsTheShapedWord : Obligations.RdwcReturnsTheShapedWord := by
  intro i n s h
  constructor
  · rw [encode, h, encodeRequest_rdwc]
  · rw [exec_eq_respond, h]
    rfl

/-- Settles O15. -/
theorem wrsSetsTheSelection : Obligations.WrsSetsTheSelection :=
  fun v _ => ⟨encodeRequest_wrs v, rfl⟩

end Sys2Proof.Laws
end

section
/-! PROOFS. The lifecycle (44_lifecycle.md): when a create completes, what of the created chip depends on the selector, and
the statement of R170. -/

namespace Sys2Proof.Laws

open Sys2Proof.Machine

/-- With its three conditions met and resources left, a create answers the created chip (R165, R215). -/
theorem createChip_completes {s : State} (config : Byte) (hlife : s.life ≠ .live) (hparams : s.params.WellFormed = true)
    (hsensors : s.sensors.WellFormed = true) :
    createChip config false s = .next { s.created config with last := .done } := by
  simp [createChip, hlife, hparams, hsensors]

/-- The selector of a create decides the address of the created chip and nothing else of it. -/
theorem created_eq_of_bus (s : State) (c d : Byte) : s.created c = { s.created d with bus := c &&& 0x7F } := rfl

/-- A variant's address has 7 bits, so the mask of `bind` keeps it (D16). -/
theorem variant_address_and_0x7F (v : Variant) : v.address &&& 0x7F = v.address := by
  cases v <;> rfl

/-- The create of a variant leaves the chip of the default selector, bound at the variant's own address. -/
theorem createVariant_completes {s : State} (v : Variant) (hlife : s.life ≠ .live)
    (hparams : s.params.WellFormed = true) (hsensors : s.sensors.WellFormed = true) :
    createVariant v false s =
      .next { s.created Config.defaultAddress with last := .done, bus := v.address } := by
  rw [createVariant, createChip_completes v.address hlife hparams hsensors,
    created_eq_of_bus s v.address Config.defaultAddress, variant_address_and_0x7F]

/-- Settles O47: the common state is the chip created at the default address. -/
theorem variantsDifferOnlyInTheirAddress : Obligations.VariantsDifferOnlyInTheirAddress :=
  ⟨rfl, rfl, fun s hlife hparams hsensors =>
    ⟨{ s.created Config.defaultAddress with last := .done }, fun v => createVariant_completes v hlife hparams hsensors⟩⟩

end Sys2Proof.Laws
end

section
/-! PROOFS. The decoder and encoder (30_encoding.md): when a descriptor decodes, that decoding and encoding are inverse to
each other, the opcode table's rows, the assembler's transaction lines, and the statements of R71 to R84. -/

namespace Sys2Proof.Laws

open Sys2Proof.Machine

/-! ### When a descriptor decodes (R72, R79, R81) -/

theorem shapeOf_eq_none_iff (D C W : Bool) : shapeOf D C W = none ↔ W = true ∧ C = false := by
  revert D C W; decide

/-- A descriptor is canonical exactly when each field its shape does not use is zero. -/
theorem canonical_iff (d : Descriptor) : canonical d = true ↔
    rsvField d = 0 ∧ (cmdPresent d = false → cmdField d = 0) ∧ (dirField d = false → dataField d = 0) ∧
    (dirField d = true → wideField d = false → highByte (dataField d) = 0) := by
  cases hD : dirField d <;> cases hC : cmdPresent d <;> cases hW : wideField d <;>
    simp [canonical, rsvClear, cmdClear, dataClear, highDataClear, hD, hC, hW, and_assoc]

section decodeRequest
variable {d : Descriptor}

theorem decodeRequest_of_shapeOf {sh : Shape} (h : shapeOf (dirField d) (cmdPresent d) (wideField d) = some sh) :
    decodeRequest d = if canonical d then .ok (requestOf d sh) else .error .nonCanonical := by
  rw [decodeRequest, h]

theorem decodeRequest_of_shapeOf_none (h : shapeOf (dirField d) (cmdPresent d) (wideField d) = none) :
    decodeRequest d = .error .noSuchShape := by
  rw [decodeRequest, h]

theorem decodeRequest_eq_ok_iff {r : Request} : decodeRequest d = .ok r ↔
    canonical d = true ∧ ∃ sh, shapeOf (dirField d) (cmdPresent d) (wideField d) = some sh ∧ requestOf d sh = r := by
  cases hs : shapeOf (dirField d) (cmdPresent d) (wideField d) with
  | none => simp [decodeRequest_of_shapeOf_none hs]
  | some sh => cases hc : canonical d <;> simp [decodeRequest_of_shapeOf hs, hc]

theorem decodeRequest_eq_noSuchShape_iff : decodeRequest d = .error .noSuchShape ↔
    wideField d = true ∧ cmdPresent d = false := by
  rw [← shapeOf_eq_none_iff (dirField d)]
  cases hs : shapeOf (dirField d) (cmdPresent d) (wideField d) with
  | none => simp [decodeRequest_of_shapeOf_none hs]
  | some sh => cases hc : canonical d <;> simp [decodeRequest_of_shapeOf hs, hc]

theorem decodeRequest_eq_nonCanonical_iff : decodeRequest d = .error .nonCanonical ↔
    ¬ (wideField d = true ∧ cmdPresent d = false) ∧ ¬ canonical d = true := by
  rw [← shapeOf_eq_none_iff (dirField d)]
  cases hs : shapeOf (dirField d) (cmdPresent d) (wideField d) with
  | none => simp [decodeRequest_of_shapeOf_none hs]
  | some sh => cases hc : canonical d <;> simp [decodeRequest_of_shapeOf hs, hc]

/-- A descriptor that decodes is one the transport can hand over. -/
theorem wellFormed_of_decodeRequest {r : Request} (h : decodeRequest d = .ok r) : Descriptor.WellFormed d = true := by
  obtain ⟨hc, sh, hs, -⟩ := decodeRequest_eq_ok_iff.1 h
  simpa [Descriptor.WellFormed, Descriptor.hasShape, hs, canonical] using hc

/-- An instruction stands for its transaction and the other way round, so decoding to one is decoding to the other. -/
theorem decode_eq_ok_iff {i : Instr} : decode d = .ok i ↔ decodeRequest d = .ok i.request := by
  unfold decode
  cases decodeRequest d with
  | error e => simp
  | ok r =>
    simp only [Except.ok.injEq]
    constructor
    · rintro rfl
      exact (request_ofRequest r).symm
    · rintro rfl
      exact ofRequest_request i

theorem decode_eq_error_iff {e : Reject} : decode d = .error e ↔ decodeRequest d = .error e := by
  unfold decode
  cases decodeRequest d <;> simp

end decodeRequest

/-- Settles O4: the two refusals in the fields of the layout, the fields being the bits R71 gives them. -/
theorem refusedDescriptorsAreExactlyTheMalformed : Obligations.RefusedDescriptorsAreExactlyTheMalformed := by
  intro d
  have hhigh : highByte (dataField d) = d.extractLsb' 8 8 := BitVec.extractLsb'_extractLsb'_of_le (by decide)
  refine ⟨decode_eq_error_iff.trans decodeRequest_eq_noSuchShape_iff,
    decode_eq_error_iff.trans (decodeRequest_eq_nonCanonical_iff.trans (and_congr_right fun _ => ?_))⟩
  rw [canonical_iff, hhigh]
  simp only [not_and_or, Classical.not_imp, ← ne_eq]
  rfl

/-! ### Decoding and encoding are inverse (R71, R73) -/

theorem decodeRequest_encodeRequest (r : Request) : decodeRequest (encodeRequest r) = .ok r := by
  rw [decodeRequest_eq_ok_iff, canonical_iff]
  cases r <;> simp [encodeRequest, shapeOf, requestOf]

/-- In a canonical descriptor the fields its shape does not use are those its transaction encodes: zero. -/
theorem encodeRequest_requestOf {d : Descriptor} {sh : Shape}
    (hs : shapeOf (dirField d) (cmdPresent d) (wideField d) = some sh) (hc : canonical d = true) :
    encodeRequest (requestOf d sh) = pack (dirField d) (cmdPresent d) (wideField d) (cmdField d) (dataField d) := by
  obtain ⟨-, hcmd, hdata, hhigh⟩ := (canonical_iff d).1 hc
  revert hs hcmd hdata hhigh
  cases dirField d <;> cases cmdPresent d <;> cases wideField d <;> intro hs hcmd hdata hhigh <;> cases hs
  · simp [encodeRequest, requestOf, hcmd, hdata]
  · simp [encodeRequest, requestOf, hdata]
  · simp [encodeRequest, requestOf, hdata]
  · simp [encodeRequest, requestOf, hcmd, zext16_lowByte (hhigh rfl rfl)]
  · simp [encodeRequest, requestOf, zext16_lowByte (hhigh rfl rfl)]
  · rfl

theorem encodeRequest_of_decodeRequest {d : Descriptor} {r : Request} (h : decodeRequest d = .ok r) :
    encodeRequest r = d := by
  obtain ⟨hc, sh, hs, rfl⟩ := decodeRequest_eq_ok_iff.1 h
  rw [encodeRequest_requestOf hs hc, pack_fields ((canonical_iff d).1 hc).1]

theorem decode_encode (i : Instr) : decode (encode i) = .ok i :=
  decode_eq_ok_iff.2 (decodeRequest_encodeRequest i.request)

theorem encode_of_decode {d : Descriptor} {i : Instr} (h : decode d = .ok i) : encode i = d :=
  encodeRequest_of_decodeRequest (decode_eq_ok_iff.1 h)

/-- Settles O2: the encoding of a transaction decodes to that transaction, and its row is the instruction. -/
theorem decodeOfEncodeIsTheInstruction : Obligations.DecodeOfEncodeIsTheInstruction := fun i =>
  ⟨wellFormed_of_decodeRequest (decodeRequest_encodeRequest i.request), decode_encode i⟩

/-- Settles O3. -/
theorem encodeOfDecodeIsTheDescriptor : Obligations.EncodeOfDecodeIsTheDescriptor :=
  fun _ _ h => encode_of_decode h

/-- Settles O1: each word is the encoding of the instruction beside it. -/
theorem writtenOutWordsDecode : Obligations.WrittenOutWordsDecode :=
  ⟨decode_encode .rdb, decode_encode (.wrs 0x07), decode_encode (.rdbc09 1), decode_encode (.rdwc04 0),
    decode_encode (.wrbc0F 0 0x40), decode_encode (.wrwc0A 1 0x5678)⟩

/-! ### The rows of the opcode table (R78) -/

/-- The encoding of an instruction matches the instruction's own row. -/
theorem encode_and_rowMask (i : Instr) : encode i &&& i.rowMask = i.rowMatch := by
  have hn (n : Byte) : regNum (bank n) (idx n) = n := regNum_bank_idx n
  unfold encode Instr.rowMask Instr.rowMatch
  cases i.request with
  | rdb => decide
  | wrs v => exact wrs_row v
  | rdbc n => simpa only [hn] using rdbc_row (idx n) (bank n)
  | rdwc n => simpa only [hn] using rdwc_row (idx n) (bank n)
  | wrbc n v => simpa only [hn] using wrbc_row (idx n) (bank n) v
  | wrwc n v => simpa only [hn] using wrwc_row (idx n) (bank n) v

section fields
variable (d m : Descriptor)
theorem dirField_and : dirField (d &&& m) = (dirField d && dirField m) := BitVec.getLsbD_and
theorem cmdPresent_and : cmdPresent (d &&& m) = (cmdPresent d && cmdPresent m) := BitVec.getLsbD_and
theorem wideField_and : wideField (d &&& m) = (wideField d && wideField m) := BitVec.getLsbD_and
theorem rsvField_and : rsvField (d &&& m) = rsvField d &&& rsvField m := BitVec.extractLsb'_and
theorem cmdField_and : cmdField (d &&& m) = cmdField d &&& cmdField m := BitVec.extractLsb'_and
theorem dataField_and : dataField (d &&& m) = dataField d &&& dataField m := BitVec.extractLsb'_and
end fields

/-- A mask that keeps the whole header fixes `D`, `C`, `W` and the reserved bits of a descriptor that matches, so the
descriptor is the packing of its fields; the masked fields are those of the match value. -/
theorem fields_of_and_eq_pack {d m : Descriptor} {D C W : Bool} {cmd : Byte} {data : Slot}
    (hm : dirField m = true ∧ cmdPresent m = true ∧ wideField m = true ∧ rsvField m = BitVec.allOnes 5)
    (h : d &&& m = pack D C W cmd data) :
    d = pack D C W (cmdField d) (dataField d) ∧ cmdField d &&& cmdField m = cmd ∧ dataField d &&& dataField m = data := by
  obtain ⟨hmD, hmC, hmW, hmR⟩ := hm
  have hD : dirField d = D := by rw [← dirField_pack D C W cmd data, ← h, dirField_and, hmD, Bool.and_true]
  have hC : cmdPresent d = C := by rw [← cmdPresent_pack D C W cmd data, ← h, cmdPresent_and, hmC, Bool.and_true]
  have hW : wideField d = W := by rw [← wideField_pack D C W cmd data, ← h, wideField_and, hmW, Bool.and_true]
  have hR : rsvField d = 0 := by rw [← rsvField_pack D C W cmd data, ← h, rsvField_and, hmR, BitVec.and_allOnes]
  refine ⟨?_, ?_, ?_⟩
  · rw [← hD, ← hC, ← hW, pack_fields hR]
  · rw [← cmdField_and, h, cmdField_pack]
  · rw [← dataField_and, h, dataField_pack]

/-- The mask of an indexed row keeps exactly the index of a command byte. -/
theorem idx_eq_of_and_mask {c : Byte} {i : Index} (h : c &&& 0x1F = regNum 0 i) : idx c = i := by
  rw [← regNum_bank_idx c, regNum_and_mask] at h
  simpa using congrArg idx h

/-- A slot value that a mask over the whole high byte clears is its low byte, zero-extended. -/
theorem zext16_lowByte_of_and {x m : Slot} (hm : highByte m = BitVec.allOnes 8) (h : x &&& m = 0) :
    zext16 (lowByte x) = x := by
  apply zext16_lowByte
  have hx : highByte (x &&& m) = highByte x &&& highByte m := BitVec.extractLsb'_and
  rw [h, hm, BitVec.and_allOnes] at hx
  exact hx.symm

theorem and_0xFFFF (x : Slot) : x &&& 0xFFFF = x := BitVec.and_allOnes

/-- A descriptor that matches a row is the encoding of a transaction of that row. -/
theorem exists_request_of_rowMatch {d : Descriptor} (q : Request)
    (h : d &&& (Instr.ofRequest q).rowMask = (Instr.ofRequest q).rowMatch) :
    ∃ r, encodeRequest r = d ∧ (Instr.ofRequest r).rowMask = (Instr.ofRequest q).rowMask ∧
      (Instr.ofRequest r).rowMatch = (Instr.ofRequest q).rowMatch := by
  cases q <;> simp only [Instr.rowMask, Instr.rowMatch, request_ofRequest] at h ⊢
  case rdb => exact ⟨.rdb, h.symm.trans BitVec.and_allOnes, rfl, rfl⟩
  case wrs v =>
    have hmatch : (0x80000000 : Descriptor) = pack true false false 0 0 := by decide
    obtain ⟨hd, hcmd, hdata⟩ := fields_of_and_eq_pack (by decide) (h.trans hmatch)
    refine ⟨.wrs (lowByte (dataField d)), ?_, rfl, rfl⟩
    rw [encodeRequest, zext16_lowByte_of_and (by decide) hdata]
    rw [show cmdField d = 0 from BitVec.and_allOnes.symm.trans hcmd] at hd
    exact hd.symm
  case rdbc n =>
    obtain ⟨hd, hcmd, hdata⟩ := fields_of_and_eq_pack (by decide) (h.trans (pack_index (idx n)).1.symm)
    refine ⟨.rdbc (cmdField d), ?_, rfl, by simp only [idx_eq_of_and_mask hcmd]⟩
    rw [show dataField d = 0 from (and_0xFFFF _).symm.trans hdata] at hd
    exact hd.symm
  case rdwc n =>
    obtain ⟨hd, hcmd, hdata⟩ := fields_of_and_eq_pack (by decide) (h.trans (pack_index (idx n)).2.1.symm)
    refine ⟨.rdwc (cmdField d), ?_, rfl, by simp only [idx_eq_of_and_mask hcmd]⟩
    rw [show dataField d = 0 from (and_0xFFFF _).symm.trans hdata] at hd
    exact hd.symm
  case wrbc n v =>
    obtain ⟨hd, hcmd, hdata⟩ := fields_of_and_eq_pack (by decide) (h.trans (pack_index (idx n)).2.2.1.symm)
    refine ⟨.wrbc (cmdField d) (lowByte (dataField d)), ?_, rfl, by simp only [idx_eq_of_and_mask hcmd]⟩
    rw [encodeRequest, zext16_lowByte_of_and (by decide) hdata]
    exact hd.symm
  case wrwc n v =>
    obtain ⟨hd, hcmd, -⟩ := fields_of_and_eq_pack (by decide) (h.trans (pack_index (idx n)).2.2.2.symm)
    exact ⟨.wrwc (cmdField d) (dataField d), hd.symm, rfl, by simp only [idx_eq_of_and_mask hcmd]⟩

/-- Settles O5: a descriptor that decodes is the encoding of what it decodes to, which matches its row; one that matches a
row encodes a transaction of that row, and so decodes to it. -/
theorem decodingAgreesWithTheRowPatterns : Obligations.DecodingAgreesWithTheRowPatterns := by
  intro d
  refine ⟨fun i h => by rw [← encode_of_decode h, encode_and_rowMask], fun i h => ?_⟩
  rw [← ofRequest_request i] at h ⊢
  obtain ⟨r, rfl, hmask, hmatch⟩ := exists_request_of_rowMatch i.request h
  refine ⟨Instr.ofRequest r, decode_eq_ok_iff.2 ?_, hmask, hmatch⟩
  rw [request_ofRequest, decodeRequest_encodeRequest]

/-! ### The assembler's transaction lines (R84) -/

/-- Bits and operands in range are assembled to the packed descriptor: neither operand is truncated. -/
theorem assembleBits_eq_pack (D C W : Bool) {n v : Nat} (hn : n < 0x100) (hv : v < 0x10000) :
    assembleBits D.toNat C.toNat W.toNat n v = pack D C W (BitVec.ofNat 8 n) (BitVec.ofNat 16 v) := by
  have hheader : BitVec.ofNat 32 (D.toNat <<< 31 ||| C.toNat <<< 30 ||| W.toNat <<< 29) = pack D C W 0 0 := by
    revert D C W; decide
  have hshift : BitVec.ofNat 32 (n <<< 16) = BitVec.ofNat 32 n <<< 16 := by
    apply BitVec.eq_of_toNat_eq
    simp only [BitVec.toNat_ofNat, BitVec.toNat_shiftLeft, Nat.mod_eq_of_lt (show n < 2 ^ 32 by omega)]
  rw [assembleBits, BitVec.ofNat_or, BitVec.ofNat_or, hheader, hshift,
    pack_eq_or D C W (BitVec.ofNat 8 n), BitVec.setWidth_ofNat_of_le_of_lt (by decide) hn,
    BitVec.setWidth_ofNat_of_le_of_lt (by decide) hv]

/-- A byte value is assembled as its zero extension. -/
theorem ofNat_eq_zext16 {v : Nat} (hv : v < 0x100) : BitVec.ofNat 16 v = zext16 (BitVec.ofNat 8 v) :=
  (BitVec.setWidth_ofNat_of_le_of_lt (by decide) hv).symm

/-- A line assembles to its event exactly when its operands fit. -/
theorem assemble_eq {l : Line} {P : Prop} [Decidable P] {e : Event} (f : Bool) (hwf : l.WellFormed = true ↔ P)
    (he : P → l.event f = e) : l.assemble f = if P then .ok e else .error .operandOutOfRange := by
  unfold Line.assemble
  by_cases h : P
  · rw [if_pos h, if_pos (hwf.2 h), he h]
  · rw [if_neg h, if_neg (mt hwf.1 h)]

/-- Settles O6: `assembleBits_eq_pack` for each line, under the range of its own operands. -/
theorem transactionLinesAssemble : Obligations.TransactionLinesAssemble := by
  intro f A n v
  have h0 : (0 : Nat) < 0x100 := by decide
  have h0' : (0 : Nat) < 0x10000 := by decide
  have wide {v : Nat} (hv : v < 0x100) : v < 0x10000 := by omega
  refine ⟨?_, ?_, ?_, ?_, ?_, ?_⟩
  · exact assemble_eq f (by simp [Line.WellFormed]) fun _ =>
      congrArg (Event.transact _) (assembleBits_eq_pack false false false h0 h0')
  · exact assemble_eq f (by simp [Line.WellFormed]) fun ⟨_, hn⟩ =>
      congrArg (Event.transact _) (assembleBits_eq_pack false true false hn h0')
  · exact assemble_eq f (by simp [Line.WellFormed]) fun ⟨_, hn⟩ =>
      congrArg (Event.transact _) (assembleBits_eq_pack false true true hn h0')
  · exact assemble_eq f (by simp [Line.WellFormed]) fun ⟨_, hv⟩ =>
      congrArg (Event.transact _) (by
        rw [encodeRequest, ← ofNat_eq_zext16 hv]
        exact assembleBits_eq_pack true false false h0 (wide hv))
  · exact assemble_eq f (by simp [Line.WellFormed, and_assoc]) fun ⟨_, hn, hv⟩ =>
      congrArg (Event.transact _) (by
        rw [encodeRequest, ← ofNat_eq_zext16 hv]
        exact assembleBits_eq_pack true true false hn (wide hv))
  · exact assemble_eq f (by simp [Line.WellFormed, and_assoc]) fun ⟨_, hn, hv⟩ =>
      congrArg (Event.transact _) (assembleBits_eq_pack true true true hn hv)

end Sys2Proof.Laws
end

section
/-! PROOFS. One step (R13, R70, R140, R191): a transaction delivered, not delivered or refused, a host operation, and the
outcome each step ends with. -/

namespace Sys2Proof.Laws

open Sys2Proof.Machine

/-! ### What a step does with its event -/

/-- Settles O7. -/
theorem stepRunsTheDecodedInstruction : Obligations.StepRunsTheDecodedInstruction := by
  intro s A d i rest hpending hd hlife hbound haddr
  have hans : ({ s with pending := rest } : State).answers A = true := (answers_iff _ A).2 ⟨hlife, hbound, haddr⟩
  rw [step_event s hpending, handle, transact_ok _ A hd, deliver_answers _ i hans]

/-- Settles O8: each of the three conditions denies one clause of `answers_iff`. -/
theorem undeliveredTransactionChangesNothing : Obligations.UndeliveredTransactionChangesNothing := by
  intro s A d i rest hpending hd hnot
  have hans : ({ s with pending := rest } : State).answers A = false := by
    rw [← Bool.not_eq_true, answers_iff]
    rintro ⟨hlife, hbound, haddr⟩
    obtain h | h | h := hnot
    · exact h hlife
    · exact absurd hbound (Nat.not_lt.2 h)
    · exact h haddr
  rw [step_event s hpending, handle, transact_ok _ A hd, deliver_not _ i hans]

/-- Settles O10. -/
theorem stepCarriesOutHostOperations : Obligations.StepCarriesOutHostOperations :=
  ⟨step_idle, fun s _ _ hpending => step_event s hpending⟩

/-! ### The outcome of a transaction (R187, R191) -/

theorem transact_noSuchShape {d : Descriptor} (A : BusAddress) (s : State) (h : decode d = .error .noSuchShape) :
    transact A d s = .refused (.noSuchShape d) := by
  rw [transact, h]

theorem transact_nonCanonical {d : Descriptor} (A : BusAddress) (s : State) (h : decode d = .error .nonCanonical) :
    transact A d s = .refused (.nonCanonical d) := by
  rw [transact, h]

/-- The bus sees every write done, applied or not (R125, R152). -/
theorem onBus_writeOutcome (n : Byte) (v : Slot) (s : State) : (writeOutcome n v s).onBus = .done none := by
  unfold writeOutcome
  split <;> rfl

/-- A delivered transaction ends with the outcome of its own rule, as the bus sees it. -/
theorem outcomeOf_exec (i : Instr) (s : State) : outcomeOf (exec i s) = some (requestOutcome i.request s).onBus := by
  rw [exec_eq_respond]
  cases i.request with
  | rdb => rfl
  | rdbc n => rfl
  | rdwc n => rfl
  | wrs v => rfl
  | wrbc n v => exact congrArg some (onBus_writeOutcome n (zext16 v) s).symm
  | wrwc n v => exact congrArg some (onBus_writeOutcome n v s).symm

theorem outcomeOf_transact (A : BusAddress) (d : Descriptor) (s : State) :
    outcomeOf (transact A d s) = some (transactionOutcome A d s).onBus := by
  unfold transactionOutcome
  cases hd : decode d with
  | error e =>
    cases e with
    | noSuchShape => rw [transact_noSuchShape A s hd]; rfl
    | nonCanonical => rw [transact_nonCanonical A s hd]; rfl
  | ok i =>
    rw [transact_ok s A hd]
    cases hans : s.answers A with
    | true => rw [deliver_answers s i hans, outcomeOf_exec]; rfl
    | false => rw [deliver_not s i hans]; rfl

/-- Settles O9. -/
theorem malformedDescriptorIsRefusedFirst : Obligations.MalformedDescriptorIsRefusedFirst := by
  refine ⟨fun s A d rest hpending => ?_, fun s A d => outcomeOf_transact A d s, fun _ _ _ _ => rfl⟩
  rw [step_event s hpending]
  exact ⟨transact_noSuchShape A _, transact_nonCanonical A _⟩

end Sys2Proof.Laws
end

section
/-! PROOFS. The delivered transactions (41_register_file.md, 42_bus_adapter.md): the byte reads, the writes with a command
byte class by class, what each leaves unchanged, and reading a written value back. -/

namespace Sys2Proof.Laws

open Sys2Proof.Machine

/-! ### Byte reads (R141, R142) -/

/-- Settles O12. -/
theorem rdbReturnsTheSelectedLowByte : Obligations.RdbReturnsTheSelectedLowByte :=
  exec_eq_respond .rdb

/-- Settles O13. -/
theorem rdbcReturnsTheLowByte : Obligations.RdbcReturnsTheLowByte := by
  intro i n s h
  rw [exec_eq_respond, h]
  rfl

/-! ### Register numbers (R22, R110) -/

theorem toNat_idx (n : Byte) : (idx n).toNat = n.toNat % 32 := by
  simp [idx, BitVec.extractLsb'_toNat]

/-- Settles O17: reads and writes use a register number through its index alone. -/
theorem aliasedNumbersBehaveAlike : Obligations.AliasedNumbersBehaveAlike := by
  intro n m v s h
  have hidx : idx n = idx m := BitVec.eq_of_toNat_eq (by rw [toNat_idx, toNat_idx, h])
  refine ⟨toNat_idx n, ?_, ?_⟩
  · rw [readReg, hidx, readReg]
  · rw [writeReg, hidx, writeReg]

/-! ### The writes with a command byte, class by class (R117 to R122) -/

/-- `WriteReg` is applied except to a read-only index. -/
theorem applied_writeClass (i : Index) : (writeClass i).applied = !isReadOnly i := by
  revert i; decide

/-- The class of the indices R122 names. -/
theorem writeClass_verbatim_of_mem {i : Index}
    (h : i ∈ ([0x02, 0x05, 0x06, 0x08, 0x09, 0x0B, 0x0C, 0x0E, 0x10, 0x16, 0x17, 0x18, 0x19, 0x1A, 0x1B, 0x1C, 0x1D,
      0x1E, 0x1F] : List Index)) : writeClass i = .verbatim := by
  revert i; decide

/-- Settles O24: nothing is stored to a read-only index, and `applied` is false exactly there. -/
theorem readOnlyWritesComplete : Obligations.ReadOnlyWritesComplete := by
  refine ⟨fun i n v s h hro => ?_, fun n v s => ?_⟩
  · rw [exec_write s h, storeReg_readOnly v s ((isReadOnly_iff_mem _).2 hro)]
  · simp only [← isReadOnly_iff_mem, writeOutcome, writeReg, applied_writeClass]
    cases isReadOnly (idx n) <;> rfl

/-- Settles O25. -/
theorem mirrorWritesComplete : Obligations.MirrorWritesComplete := by
  intro i n v s h hn
  rw [exec_write s h, hn, storeReg_0A]
  rfl

/-- What a resetting write stored in 0x03 before its reset is overwritten (R119, R194). -/
theorem setReg_applyReset (s : State) (i : Index) (v : Slot) : (s.setReg i v).applyReset = s.applyReset := rfl

/-- Settles O26. -/
theorem configurationWritesComplete : Obligations.ConfigurationWritesComplete := by
  intro i n v s h hn
  rw [exec_write s h, hn, storeReg_03, setReg_applyReset, resetBit]
  split <;> rfl

/-- The state a write to 0x0F leaves, its divisors taken from the incoming value (R120). -/
theorem storeReg_0F_eq (v : Slot) (s : State) : storeReg 0x0F v s =
    { s with
      regs := writeSlot (writeSlot s.regs 0x0F (v &&& 0xF8)) 0x07 (fanSlot v s.sensors.fan0 s.sensors.fan1)
      fanSnapshot := (s.sensors.fan0, s.sensors.fan1) } := by
  rw [← storeReg_0F_regs]
  rfl

/-- Settles O27. -/
theorem divisorWritesComplete : Obligations.DivisorWritesComplete := by
  intro i n v s h hn
  rw [exec_write s h, hn, storeReg_0F_eq]
  rfl

/-- Settles O28. -/
theorem maskedWritesComplete : Obligations.MaskedWritesComplete := by
  intro i n v s h hn
  rw [exec_write s h, hn, storeReg_11]
  rfl

/-- Settles O29. -/
theorem verbatimWritesComplete : Obligations.VerbatimWritesComplete := by
  intro i n v s h hn
  rw [exec_write s h, storeReg_verbatim v s (writeClass_verbatim_of_mem hn)]
  rfl

/-! ### What a transaction leaves unchanged (R60, R61, R149, R150, R196) -/

/-- Settles O30: the host's side is in the frame of every write, and a read or `WRS` touches other fields. -/
theorem transactionsLeaveTheHostSideAlone : Obligations.TransactionsLeaveTheHostSideAlone := by
  intro i s t ht
  obtain ⟨-, h⟩ | ⟨n, -, h⟩ | ⟨n, -, h⟩ | ⟨v, -, h⟩ | ⟨n, v, -, h⟩ := exec_cases i s <;> cases h.symm.trans ht
  case inr.inr.inr.inr =>
    obtain ⟨-, hbus, -, hlife, hsensors, hparams, hpending, -⟩ := storeReg_frame v s (idx n)
    exact ⟨hbus, hlife, hsensors, hparams, hpending⟩
  all_goals exact ⟨rfl, rfl, rfl, rfl, rfl⟩

/-- Settles O32: a read changes at most the phase and the outcome. -/
theorem readsWriteNoSlot : Obligations.ReadsWriteNoSlot := by
  intro i s t hi ht
  obtain ⟨p, r, h, -⟩ := exec_of_isRead s hi
  cases h.symm.trans ht
  exact ⟨fun _ => rfl, rfl, rfl, rfl, rfl⟩

/-- A write leaves every slot as it was but its own and those of its class's side effect. -/
theorem readSlot_storeReg_ne {i j : Index} {v : Slot} (s : State) (hown : j ≠ i) (hmirror : ¬ (i = 0x0A ∧ j = 0x13))
    (hfans : ¬ (i = 0x0F ∧ j = 0x07)) (hreset : ¬ (i = 0x03 ∧ v.getLsbD 7 = true)) :
    readSlot (storeReg i v s).regs j = readSlot s.regs j := by
  obtain ⟨-, h⟩ | ⟨rfl, h⟩ | ⟨rfl, hb, -⟩ | ⟨rfl, -, h⟩ | ⟨rfl, h⟩ | ⟨rfl, h⟩ | ⟨-, h⟩ := storeReg_cases v s i
  · rw [h]
  · rw [h, setReg_regs, setReg_regs, readSlot_writeSlot_ne _ _ hown,
      readSlot_writeSlot_ne _ _ fun e => hmirror ⟨rfl, e⟩]
  · exact absurd ⟨rfl, hb⟩ hreset
  · rw [h, setReg_regs, readSlot_writeSlot_ne _ _ hown]
  · rw [h, recomputeFans_regs, setReg_regs, readSlot_writeSlot_ne _ _ fun e => hfans ⟨rfl, e⟩,
      readSlot_writeSlot_ne _ _ hown]
  · rw [h, setReg_regs, readSlot_writeSlot_ne _ _ hown]
  · rw [h, setReg_regs, readSlot_writeSlot_ne _ _ hown]

/-- Settles O33. -/
theorem writesChangeOnlyTheirSlots : Obligations.WritesChangeOnlyTheirSlots := by
  intro i n v s t j h ht hown hmirror hfans hreset
  cases (exec_write s h).symm.trans ht
  exact readSlot_storeReg_ne s hown hmirror hfans hreset

/-- Settles O34. -/
theorem phaseFollowsTheTransaction : Obligations.PhaseFollowsTheTransaction := by
  intro i s t ht
  rw [exec_eq_respond] at ht
  cases hr : i.request <;> rw [hr] at ht <;> cases ht <;> rfl

/-! ### Reading back what was written (R112, R122, R221) -/

/-- Settles O56: the verbatim write leaves the value in its slot, and the word read shapes it. -/
theorem verbatimSlotsReadBack : Obligations.VerbatimSlotsReadBack := by
  intro w r n m v s t hw hr hidx hn ht
  have hv : writeClass (idx n) = .verbatim := writeClass_verbatim_of_mem hn
  cases ((exec_write s hw).trans (by rw [storeReg_verbatim v s hv])).symm.trans ht
  rw [exec_eq_respond, hr, respond, handleReadWord, readReg, hidx]
  simp

/-- A sensor line that answers a next state has replaced the readings and nothing else of the chip (R171). -/
theorem callHost_sensor_next {rs : List Reading} {s t : State} (h : callHost (.sensor rs) s = .next t) :
    t = { s with sensors := s.sensors.updateAll rs, last := .done } := by
  obtain ⟨_, hop, -⟩ | ⟨_, hop, -⟩ | ⟨hop, -⟩ | ⟨_, hop, -⟩ | ⟨_, hop, -, rfl⟩ := callHost_cases h <;> cases hop
  rfl

/-- A read uses `sel` and the slots alone: under other readings, and after another outcome, it answers the same. -/
theorem exec_read_of_sensors {i : Instr} {s u : State} (S : Sensors) (r : Result) (hi : i.isRead = true)
    (h : exec i s = .next u) : exec i { s with sensors := S, last := r } = .next { u with sensors := S } := by
  rw [exec_eq_respond] at h ⊢
  unfold Instr.isRead at hi
  cases hr : i.request with
  | rdb => rw [hr] at h; cases h; rfl
  | rdbc n => rw [hr] at h; cases h; rfl
  | rdwc n => rw [hr] at h; cases h; rfl
  | wrs v => rw [hr] at hi; cases hi
  | wrbc n v => rw [hr] at hi; cases hi
  | wrwc n v => rw [hr] at hi; cases hi

/-- Settles O58. -/
theorem sensorChangesAreNotReadDirectly : Obligations.SensorChangesAreNotReadDirectly := by
  intro i s t u rs hi ht hu
  cases callHost_sensor_next ht
  exact exec_read_of_sensors _ _ hi hu

/-- A masked write that does not reset leaves the value under its mask in its own slot (R119 to R121). -/
theorem readSlot_storeReg_masked {i : Index} {v : Slot} (s : State) (hi : i ∈ ([0x03, 0x0F, 0x11] : List Index))
    (hreset : ¬ (i = 0x03 ∧ v.getLsbD 7 = true)) : readSlot (storeReg i v s).regs i = v &&& writeMask i := by
  simp only [List.mem_cons, List.not_mem_nil, or_false] at hi
  obtain rfl | rfl | rfl := hi
  · rw [storeReg_03, if_neg fun hb : resetBit v = true => hreset ⟨rfl, hb⟩]
    exact readSlot_writeSlot_same _ _ _
  · rw [storeReg_0F_regs, readSlot_writeSlot_ne _ _ (by decide), readSlot_writeSlot_same]
    rfl
  · rw [storeReg_11]
    exact readSlot_writeSlot_same _ _ _

/-- A byte whose bits outside the mask are zero, read in both halves, is the byte again under the mask of its slot. -/
theorem doubled_and_writeMask (b : Byte) :
    (zext16 b &&& 0xFF83 = 0 → (zext16 b ||| (zext16 b <<< 8)) &&& writeMask 0x03 = zext16 b ∧
      (zext16 b ||| (zext16 b <<< 8)).getLsbD 7 = false) ∧
    (zext16 b &&& 0xFF07 = 0 → (zext16 b ||| (zext16 b <<< 8)) &&& writeMask 0x0F = zext16 b) ∧
    (zext16 b &&& 0xFF80 = 0 → (zext16 b ||| (zext16 b <<< 8)) &&& writeMask 0x11 = zext16 b) := by
  revert b; decide

/-- What a read of a masked slot of a consistent chip returns is the slot's value under its mask, and at 0x03 it does not
trigger a reset (R221). -/
theorem readReg_and_writeMask {n : Byte} {s : State} (hs : s.SlotsConsistent)
    (hn : idx n ∈ ([0x03, 0x0F, 0x11] : List Index)) :
    readReg n s &&& writeMask (idx n) = readSlot s.regs (idx n) ∧
      ¬ (idx n = 0x03 ∧ (readReg n s).getLsbD 7 = true) := by
  have hconf := hs.configuration
  have hdiv := hs.divisors
  have h11 := hs.slot11
  simp only [List.mem_cons, List.not_mem_nil, or_false] at hn
  unfold readReg
  obtain h | h | h := hn <;> rw [h, shape_of_not_twoByte _ (by decide)]
  · have hx := zext16_lowByte_of_and (by decide) hconf
    rw [← hx] at hconf
    obtain ⟨hmask, hbit⟩ := (doubled_and_writeMask _).1 hconf
    rw [hbit]
    exact ⟨hmask.trans hx, nofun⟩
  · have hx := zext16_lowByte_of_and (by decide) hdiv
    rw [← hx] at hdiv
    exact ⟨((doubled_and_writeMask _).2.1 hdiv).trans hx, nofun⟩
  · have hx := zext16_lowByte_of_and (by decide) h11
    rw [← hx] at h11
    exact ⟨((doubled_and_writeMask _).2.2 h11).trans hx, nofun⟩

/-- Settles O57: the value read is stored back whole, and the frame of the write keeps the other slots. -/
theorem writeBackKeepsTheMaskedSlots : Obligations.WriteBackKeepsTheMaskedSlots := by
  intro n s hs hn
  obtain ⟨hmask, hreset⟩ := readReg_and_writeMask hs hn
  have hown : readSlot (writeReg n (readReg n s) s).2.regs (idx n) = readSlot s.regs (idx n) :=
    (readSlot_storeReg_masked s hn hreset).trans hmask
  refine ⟨hown, fun j hfans => ?_⟩
  by_cases hj : j = idx n
  · rw [hj, hown]
  · refine readSlot_storeReg_ne s hj ?_ hfans hreset
    rintro ⟨h, -⟩
    rw [h] at hn
    exact absurd hn (by decide)

end Sys2Proof.Laws
end

section
/-! PROOFS. The fan table in closed form and the stored voltages (40_conversion.md), and what a reset, a create and the
other host operations leave (44_lifecycle.md, 70_reset_and_hazards.md). -/

namespace Sys2Proof.Laws

open Sys2Proof.Machine

/-! ### The fan table and the stored voltages (R91, R96) -/

/-- Settles O36: each count is a range of the quotient `480000 / (rpm * d)`, and a bound on the quotient is one on the
product. -/
theorem fanCountClosedForm : Obligations.FanCountClosedForm := by
  intro rpm d hr hd
  have hp : 0 < rpm * d := Nat.mul_pos hr hd
  have hle (k : Nat) : k ≤ 480000 / (rpm * d) ↔ k * (rpm * d) ≤ 480000 := Nat.le_div_iff_mul_le hp
  rw [rpmToReg_of_pos d hr]
  refine ⟨?_, ?_, fun k h2 h254 => ?_⟩
  · have := hle 255
    omega
  · have := hle 2
    omega
  · rw [Nat.div_lt_iff_lt_mul (by omega), Nat.le_div_iff_mul_le (by omega), Nat.mul_comm (rpm * d),
      Nat.mul_comm (rpm * d), ← hle, ← Nat.not_le, ← hle]
    omega

/-- A calibrated encoding is stored whole: it needs 9 bits of the slot's 16 (D12). -/
theorem toNat_toSlot_cal {x : Nat} (h : x < 256) : (toSlot (cal x)).toNat = x + 13 :=
  toNat_toSlot (show x + 13 < 65536 by omega)

theorem cal_bounds {x : Nat} (h : x < 256) : 13 ≤ cal x ∧ cal x ≤ 268 := by
  unfold cal
  omega

/-- Settles O40: both encodings are bytes. -/
theorem calibrationIsStoredUntruncated : Obligations.CalibrationIsStoredUntruncated := by
  intro v
  obtain ⟨hlo, hhi⟩ := cal_bounds (voltageToReg_lt v)
  obtain ⟨hlo', hhi'⟩ := cal_bounds (vddToReg_lt v)
  exact ⟨hlo, hhi, hlo', hhi', toNat_toSlot_cal (voltageToReg_lt v), toNat_toSlot_cal (vddToReg_lt v)⟩

/-! ### Reset (R210, R214) -/

/-- Settles O43: the table of R210, its one constant computed from the nominal rail. -/
theorem resetSetsEverySlot : Obligations.ResetSetsEverySlot := by
  intro p S
  have hvdd : toSlot (cal (vddToReg nominalVdd)) = 0x00DF := by decide
  rw [← hvdd]
  rfl

/-- Settles O45: the table of R210 under the defaults, each encoded reading of the seed computed. -/
theorem resetStateComponents : Obligations.ResetStateComponents := by
  refine ⟨?_, rfl, rfl, rfl, rfl⟩
  have htemp : toSlot (tempToReg 30) = 0x0095 := by decide
  have hfans : toSlot (fanPack 3000 8 3000 8) = 0x1414 := by decide
  have hvolt2 : toSlot (voltageToReg 3300 + 13) = 0x00BA := by decide
  have hvolt1 : toSlot (voltageToReg 2862 + 13) = 0x00A3 := by decide
  rw [← htemp, ← hfans, ← hvolt2, ← hvolt1]
  exact resetSetsEverySlot Config.params (Sensors.seed Config.params)

/-! ### Create (R165, R169, R215) -/

/-- The open rail is only known to lie in its domain, which is what a create checks (D14, I12). -/
theorem configParams_wellFormed : Config.params.WellFormed = true := by
  have hvcore : Config.params.vcore ≤ readingMax := Nat.le_of_lt_succ Config.vcore.isLt
  have hseeds : Config.params.seedsWellFormed = true := by
    rw [Params.seedsWellFormed, decide_eq_true hvcore]
    rfl
  rw [Params.WellFormed, hseeds]
  decide

/-- Settles O44: the created chip has every field of `State.reset`, whatever the source held. -/
theorem resetStateIsTheCreatedChip : Obligations.ResetStateIsTheCreatedChip := fun _ hS =>
  createChip_completes 0x2C nofun configParams_wellFormed hS

theorem toNat_and_0x7F (c : Byte) : (c &&& 0x7F).toNat = c.toNat % 128 :=
  Nat.and_two_pow_sub_one_eq_mod c.toNat 7

/-- Settles O46: the fields of the created chip; its masked address is below 0x80, so it is bound. -/
theorem createMakesALiveBoundChip : Obligations.CreateMakesALiveBoundChip := by
  intro s config hlife hparams hsensors
  have hbus : (s.created config).bus.toNat = config.toNat % 128 := toNat_and_0x7F config
  refine ⟨{ s.created config with last := .done }, createChip_completes config hlife hparams hsensors,
    rfl, rfl, rfl, rfl, rfl, rfl, rfl, rfl, hbus, fun A => ?_⟩
  rw [answers_iff]
  change Life.live = .live ∧ (s.created config).bus.toNat < 0x80 ∧ A.toNat = (s.created config).bus.toNat ↔ _
  rw [hbus]
  have : config.toNat % 128 < 0x80 := Nat.mod_lt _ (by decide)
  tauto

/-- Settles O48. -/
theorem failedCreateLeavesNothing : Obligations.FailedCreateLeavesNothing := by
  intro s config hlife hparams hsensors
  simp [callHost, createChip, hlife, hparams, hsensors]

/-! ### Destroy and remap (R147, R168) -/

theorem destroyChip_of_live {s : State} (h : s.life = .live) :
    destroyChip s = .next { s with bus := 0x80, life := .destroyed, last := .done } := if_pos h

theorem remapChip_of_live {s : State} (a : Byte) (h : s.life = .live) :
    remapChip a s = .next { s with bus := a, last := .done } := if_pos h

/-- Settles O49: a chip that is not live answers no address. -/
theorem destroyUnbindsTheChip : Obligations.DestroyUnbindsTheChip := by
  intro s hlife
  have hnext := destroyChip_of_live hlife
  refine ⟨hnext, fun t ht A => ?_⟩
  cases hnext.symm.trans ht
  rw [← Bool.not_eq_true, answers_iff]
  exact fun h => nomatch h.1

/-- Settles O50: the address a transaction is sent to has 7 bits, so it equals `bus` only when `bus` is below 0x80. -/
theorem remapMovesDelivery : Obligations.RemapMovesDelivery := by
  intro s a hlife
  have hnext := remapChip_of_live a hlife
  refine ⟨hnext, fun t ht A => ?_⟩
  cases hnext.symm.trans ht
  rw [answers_iff]
  have hA : A.toNat < 0x80 := A.isLt
  exact ⟨fun h => h.2.2, fun h => ⟨hlife, h ▸ hA, h⟩⟩

/-! ### Sensor updates and refusals (R171, R215) -/

theorem updateSensors_of_wellFormed {rs : List Reading} (s : State) (h : rs.all Reading.WellFormed = true) :
    updateSensors rs s = .next { s with sensors := s.sensors.updateAll rs, last := .done } := if_pos h

/-- Settles O51. -/
theorem sensorUpdateLeavesTheChipAlone : Obligations.SensorUpdateLeavesTheChipAlone :=
  ⟨fun s _ h => updateSensors_of_wellFormed s h, fun _ _ _ => ⟨rfl, rfl⟩,
    fun _ _ _ => ⟨rfl, rfl, rfl, rfl, rfl, rfl⟩⟩

/-- Settles O52: each operation checks its conditions in the order of the clauses. -/
theorem hostBreachesAreRefused : Obligations.HostBreachesAreRefused := by
  refine ⟨fun s c f hlife => if_pos hlife, fun s c f hlife hparams => ?_, fun s c f hlife hparams hsensors => ?_,
    fun s hlife => if_neg hlife, fun s a hlife => if_neg hlife, fun s rs hrs => ?_⟩
  · simp [callHost, createChip, hlife, hparams]
  · simp [callHost, createChip, hlife, hparams, hsensors]
  · simp [callHost, updateSensors, hrs]

end Sys2Proof.Laws
end

section
/-! PROOFS. The invariant of the machine (R40, R41, R126, R189): what it depends on, that a reset establishes it and every
write, transaction and host operation keeps it, and the statements about it. -/

namespace Sys2Proof.Laws

open Sys2Proof.Machine

/-! ### What a well-formed instantiation says -/

theorem params_wellFormed_iff (p : Params) :
    p.WellFormed = true ↔ p.fandivReset &&& 0xFFF7 = 0x00F0 ∧ p.vcore ≤ readingMax ∧ p.seedV1 ≤ readingMax := by
  simp [Params.WellFormed, Params.fandivWellFormed, Params.seedsWellFormed]

theorem sensors_wellFormed_iff (S : Sensors) : S.WellFormed = true ↔
    (S.fan0 ≤ readingMax ∧ S.fan1 ≤ readingMax) ∧ S.volt0 ≤ readingMax ∧ S.volt1 ≤ readingMax ∧ S.volt2 ≤ readingMax := by
  simp [Sensors.WellFormed, Sensors.fansWellFormed, Sensors.voltsWellFormed, and_assoc]

theorem seed_wellFormed {p : Params} (h : p.WellFormed = true) : (Sensors.seed p).WellFormed = true := by
  obtain ⟨-, hvcore, hseedV1⟩ := (params_wellFormed_iff p).1 h
  have hfan : 3000 ≤ readingMax := by decide
  have hvolt2 : 3300 ≤ readingMax := by decide
  exact (sensors_wellFormed_iff _).2 ⟨⟨hfan, hfan⟩, hvcore, hseedV1, hvolt2⟩

theorem update_wellFormed {S : Sensors} {r : Reading} (hS : S.WellFormed = true) (hr : r.WellFormed = true) :
    (S.update r).WellFormed = true := by
  rw [sensors_wellFormed_iff] at hS ⊢
  obtain ⟨⟨hf0, hf1⟩, hv0, hv1, hv2⟩ := hS
  cases r with
  | fan0 x => exact ⟨⟨of_decide_eq_true hr, hf1⟩, hv0, hv1, hv2⟩
  | fan1 x => exact ⟨⟨hf0, of_decide_eq_true hr⟩, hv0, hv1, hv2⟩
  | temp0 x => exact ⟨⟨hf0, hf1⟩, hv0, hv1, hv2⟩
  | volt0 x => exact ⟨⟨hf0, hf1⟩, of_decide_eq_true hr, hv1, hv2⟩
  | volt1 x => exact ⟨⟨hf0, hf1⟩, hv0, of_decide_eq_true hr, hv2⟩
  | volt2 x => exact ⟨⟨hf0, hf1⟩, hv0, hv1, of_decide_eq_true hr⟩

theorem updateAll_wellFormed {S : Sensors} {rs : List Reading} (hS : S.WellFormed = true)
    (hrs : rs.all Reading.WellFormed = true) : (S.updateAll rs).WellFormed = true := by
  induction rs generalizing S with
  | nil => exact hS
  | cons r rs ih =>
    obtain ⟨hr, hrest⟩ : r.WellFormed = true ∧ rs.all Reading.WellFormed = true := by
      simpa only [List.all_cons, Bool.and_eq_true] using hrs
    exact ih (update_wellFormed hS hr) hrest

/-! ### A reset makes the slots consistent (D10, R210) -/

/-- D10 sets bits 7:4 of the divisor slot, so both reset divisors are 8, the divisor every reset encodes the fans with. -/
theorem fanSlot_of_fandiv {x : Slot} (h : x &&& 0xFFF7 = 0x00F0) (f0 f1 : Nat) :
    fanSlot x f0 f1 = toSlot (fanPack f0 resetDivisor f1 resetDivisor) := by
  have hmask6 : (0xFFF7 : Slot).extractLsb' 6 2 = BitVec.allOnes 2 := by decide
  have hmask4 : (0xFFF7 : Slot).extractLsb' 4 2 = BitVec.allOnes 2 := by decide
  have h6 : x.extractLsb' 6 2 = 3 := by
    rw [← BitVec.and_allOnes (x := x.extractLsb' 6 2), ← hmask6, ← BitVec.extractLsb'_and, h]
    decide
  have h4 : x.extractLsb' 4 2 = 3 := by
    rw [← BitVec.and_allOnes (x := x.extractLsb' 4 2), ← hmask4, ← BitVec.extractLsb'_and, h]
    decide
  rw [fanSlot, fan0Exponent, fan1Exponent, h6, h4]
  rfl

theorem applyReset_slotsConsistent {s : State} (h : s.params.WellFormed = true) : s.applyReset.SlotsConsistent := by
  obtain ⟨hfandiv, -⟩ := (params_wellFormed_iff s.params).1 h
  have hmasked : s.params.fandivReset &&& 0xFF07 = 0 := by
    have hsplit : (0xFF07 : Slot) = 0xFFF7 &&& 0xFF07 := by decide
    rw [hsplit, ← BitVec.and_assoc, hfandiv]
    decide
  exact
    { configuration := BitVec.zero_and
      divisors := hmasked
      slot11 := BitVec.zero_and
      fans := (fanSlot_of_fandiv hfandiv _ _).symm
      temperature := rfl
      rail0 := rfl
      rail1 := .inl rfl
      rail2 := rfl
      vdd := resetSlots_15 _ _
      slot12 := rfl
      identity := ⟨rfl, rfl⟩ }

/-! ### Writes keep the slots consistent (R189) -/

/-- Consistency is a property of the slots, the parameters and the two ghost fields. -/
theorem slotsConsistent_congr {s t : State} (h : s.SlotsConsistent) (hregs : t.regs = s.regs)
    (hparams : t.params = s.params) (hsnap : t.snapshot = s.snapshot) (hfan : t.fanSnapshot = s.fanSnapshot) :
    t.SlotsConsistent := by
  cases s
  cases t
  subst hregs hparams hsnap hfan
  exact ⟨h.1, h.2, h.3, h.4, h.5, h.6, h.7, h.8, h.9, h.10, h.11⟩

/-- A change that keeps the slots only a reset writes, and the masks, the fan relation and the mirror, keeps consistency. -/
theorem slotsConsistent_of_frame {s t : State} (h : s.SlotsConsistent) (hparams : t.params = s.params)
    (hsnap : t.snapshot = s.snapshot)
    (hkept : ∀ j ∈ ([0x00, 0x01, 0x04, 0x0D, 0x12, 0x14, 0x15] : List Index), readSlot t.regs j = readSlot s.regs j)
    (h03 : readSlot t.regs 0x03 &&& 0xFF83 = 0) (h0F : readSlot t.regs 0x0F &&& 0xFF07 = 0)
    (h11 : readSlot t.regs 0x11 &&& 0xFF80 = 0)
    (h07 : readSlot t.regs 0x07 = fanSlot (readSlot t.regs 0x0F) t.fanSnapshot.1 t.fanSnapshot.2)
    (h13 : readSlot t.regs 0x13 = toSlot (cal (voltageToReg s.snapshot.volt1)) ∨
      readSlot t.regs 0x13 = readSlot t.regs 0x0A &&& 0xFF) : t.SlotsConsistent where
  configuration := h03
  divisors := h0F
  slot11 := h11
  fans := h07
  temperature := by rw [hkept _ (by decide), hsnap, h.temperature]
  rail0 := by rw [hkept _ (by decide), hsnap, h.rail0]
  rail1 := by rw [hsnap]; exact h13
  rail2 := by rw [hkept _ (by decide), hsnap, h.rail2]
  vdd := by rw [hkept _ (by decide), h.vdd]
  slot12 := by rw [hkept _ (by decide), h.slot12]
  identity := by rw [hkept _ (by decide), hkept _ (by decide), hparams]; exact h.identity

/-- Masking twice with disjoint masks leaves nothing. -/
theorem and_and_eq_zero {m k : Slot} (v : Slot) (h : m &&& k = 0) : v &&& m &&& k = 0 := by
  rw [BitVec.and_assoc, h]
  exact BitVec.and_zero

/-- A write to 0x03 that does not reset stores a value with bit 7 clear too (R119). -/
theorem and_0xFC_of_resetBit {v : Slot} (h : resetBit v = false) : v &&& 0xFC &&& 0xFF83 = 0 := by
  have hmask : (0xFC : Slot) &&& 0xFF83 = BitVec.twoPow 16 7 := by decide
  have hbit : v.getLsbD 7 = false := h
  rw [BitVec.and_assoc, hmask, BitVec.and_twoPow, hbit]
  rfl

section writes
variable {s : State} (v : Slot)

/-- A write to a slot that no other slot depends on; of these, 0x03 and 0x11 are masked. -/
theorem setReg_slotsConsistent (h : s.SlotsConsistent) {i : Index}
    (hi : i ∉ ([0x00, 0x01, 0x04, 0x07, 0x0A, 0x0D, 0x0F, 0x12, 0x13, 0x14, 0x15] : List Index))
    (h03 : i = 0x03 → v &&& 0xFF83 = 0) (h11 : i = 0x11 → v &&& 0xFF80 = 0) : (s.setReg i v).SlotsConsistent := by
  have hne (j : Index) (hj : j ∈ ([0x00, 0x01, 0x04, 0x07, 0x0A, 0x0D, 0x0F, 0x12, 0x13, 0x14, 0x15] : List Index)) :
      readSlot (s.setReg i v).regs j = readSlot s.regs j :=
    readSlot_writeSlot_ne _ _ (ne_of_mem_of_not_mem hj hi)
  refine slotsConsistent_of_frame h rfl rfl (fun j hj => hne j ?_) ?_ ?_ ?_ ?_ ?_
  · revert j; decide
  · rw [setReg_regs, readSlot_writeSlot]
    split
    · next hij => exact h03 hij.symm
    · exact h.configuration
  · rw [hne _ (by decide), h.divisors]
  · rw [setReg_regs, readSlot_writeSlot]
    split
    · next hij => exact h11 hij.symm
    · exact h.slot11
  · rw [hne _ (by decide), hne _ (by decide), setReg_fanSnapshot, h.fans]
  · rw [hne _ (by decide), hne _ (by decide)]
    exact h.rail1

/-- The mirror writes 0x13 with what the relation of the two slots asks (R118). -/
theorem mirror_slotsConsistent (h : s.SlotsConsistent) :
    ((s.setReg 0x13 (v &&& 0xFF)).setReg 0x0A v).SlotsConsistent := by
  have hne (j : Index) (hA : j ≠ 0x0A) (h13 : j ≠ 0x13) :
      readSlot ((s.setReg 0x13 (v &&& 0xFF)).setReg 0x0A v).regs j = readSlot s.regs j :=
    (readSlot_writeSlot_ne _ _ hA).trans (readSlot_writeSlot_ne _ _ h13)
  refine slotsConsistent_of_frame h rfl rfl (fun j hj => hne j ?_ ?_) ?_ ?_ ?_ ?_ (.inr ?_)
  · revert j; decide
  · revert j; decide
  · rw [hne _ (by decide) (by decide), h.configuration]
  · rw [hne _ (by decide) (by decide), h.divisors]
  · rw [hne _ (by decide) (by decide), h.slot11]
  · rw [hne _ (by decide) (by decide), hne _ (by decide) (by decide)]
    exact h.fans
  · rw [setReg_regs, readSlot_writeSlot_same, readSlot_writeSlot_ne _ _ (by decide), setReg_regs,
      readSlot_writeSlot_same]

/-- The recompute encodes the fans under the divisors just stored (R120). -/
theorem recompute_slotsConsistent (h : s.SlotsConsistent) :
    (s.setReg 0x0F (v &&& 0xF8)).recomputeFans.SlotsConsistent := by
  have hne (j : Index) (h7 : j ≠ 0x07) (hF : j ≠ 0x0F) :
      readSlot (s.setReg 0x0F (v &&& 0xF8)).recomputeFans.regs j = readSlot s.regs j :=
    (readSlot_writeSlot_ne _ _ h7).trans (readSlot_writeSlot_ne _ _ hF)
  have hF : readSlot (s.setReg 0x0F (v &&& 0xF8)).recomputeFans.regs 0x0F = v &&& 0xF8 :=
    (readSlot_writeSlot_ne _ _ (by decide)).trans (readSlot_writeSlot_same _ _ _)
  refine slotsConsistent_of_frame h rfl rfl (fun j hj => hne j ?_ ?_) ?_ ?_ ?_ ?_ ?_
  · revert j; decide
  · revert j; decide
  · rw [hne _ (by decide) (by decide), h.configuration]
  · rw [hF, and_and_eq_zero v (by decide)]
  · rw [hne _ (by decide) (by decide), h.slot11]
  · rw [hF, recomputeFans_regs, readSlot_writeSlot_same, setReg_regs, readSlot_writeSlot_same]
    rfl
  · rw [hne _ (by decide) (by decide), hne _ (by decide) (by decide)]
    exact h.rail1

end writes

/-- No index of the verbatim class is one the invariant speaks of. -/
theorem not_tracked_of_verbatim {i : Index} (h : writeClass i = .verbatim) :
    i ∉ ([0x00, 0x01, 0x04, 0x07, 0x0A, 0x0D, 0x0F, 0x12, 0x13, 0x14, 0x15] : List Index) ∧ i ≠ 0x03 ∧ i ≠ 0x11 := by
  revert i; decide

theorem storeReg_slotsConsistent {s : State} (i : Index) (v : Slot) (h : s.SlotsConsistent)
    (hparams : s.params.WellFormed = true) : (storeReg i v s).SlotsConsistent := by
  obtain ⟨-, e⟩ | ⟨rfl, e⟩ | ⟨rfl, -, e⟩ | ⟨rfl, hb, e⟩ | ⟨rfl, e⟩ | ⟨rfl, e⟩ | ⟨hv, e⟩ := storeReg_cases v s i <;> rw [e]
  · exact h
  · exact mirror_slotsConsistent v h
  · exact applyReset_slotsConsistent hparams
  · exact setReg_slotsConsistent _ h (by decide) (fun _ => and_0xFC_of_resetBit hb) nofun
  · exact recompute_slotsConsistent v h
  · exact setReg_slotsConsistent _ h (by decide) nofun (fun _ => and_and_eq_zero v (by decide))
  · obtain ⟨hi, h03, h11⟩ := not_tracked_of_verbatim hv
    exact setReg_slotsConsistent v h hi (absurd · h03) (absurd · h11)

/-- A write leaves each ghost field as it was or notes the readings of this step (R40, R41). -/
theorem storeReg_ghosts (i : Index) (v : Slot) (s : State) :
    ((storeReg i v s).snapshot = s.snapshot ∨ (storeReg i v s).snapshot = s.sensors) ∧
    ((storeReg i v s).fanSnapshot = s.fanSnapshot ∨
      (storeReg i v s).fanSnapshot = (s.sensors.fan0, s.sensors.fan1)) := by
  obtain ⟨-, e⟩ | ⟨rfl, e⟩ | ⟨rfl, -, e⟩ | ⟨rfl, -, e⟩ | ⟨rfl, e⟩ | ⟨rfl, e⟩ | ⟨-, e⟩ := storeReg_cases v s i <;> rw [e]
  · exact ⟨.inl rfl, .inl rfl⟩
  · exact ⟨.inl rfl, .inl rfl⟩
  · exact ⟨.inr rfl, .inr rfl⟩
  · exact ⟨.inl rfl, .inl rfl⟩
  · exact ⟨.inl rfl, .inr rfl⟩
  · exact ⟨.inl rfl, .inl rfl⟩
  · exact ⟨.inl rfl, .inl rfl⟩

/-! ### Every operation keeps the invariant -/

/-- The invariant says nothing of the selection, the phase, the pending events and the last outcome. -/
theorem inv_congr {s t : State} (h : s.Inv) (hregs : t.regs = s.regs) (hbus : t.bus = s.bus) (hlife : t.life = s.life)
    (hsensors : t.sensors = s.sensors) (hparams : t.params = s.params) (hsnap : t.snapshot = s.snapshot)
    (hfan : t.fanSnapshot = s.fanSnapshot) : t.Inv where
  paramsOk := by rw [hparams, h.paramsOk]
  sensorsOk := by rw [hsensors, h.sensorsOk]
  snapshotOk := by rw [hsnap, h.snapshotOk]
  fanSnapshotOk := by rw [hfan]; exact h.fanSnapshotOk
  unbound := by rw [hlife, State.bound, hbus]; exact h.unbound
  slotsOk hlive := slotsConsistent_congr (h.slotsOk (hlife.symm.trans hlive)) hregs hparams hsnap hfan

theorem fans_of_sensorsOk {S : Sensors} (h : S.WellFormed = true) : S.fan0 ≤ readingMax ∧ S.fan1 ≤ readingMax :=
  ((sensors_wellFormed_iff S).1 h).1

theorem storeReg_inv {s : State} (i : Index) (v : Slot) (h : s.Inv) : (storeReg i v s).Inv := by
  obtain ⟨-, hbus, -, hlife, hsensors, hparams, -, -⟩ := storeReg_frame v s i
  obtain ⟨hsnap, hfan⟩ := storeReg_ghosts i v s
  exact
    { paramsOk := by rw [hparams, h.paramsOk]
      sensorsOk := by rw [hsensors, h.sensorsOk]
      snapshotOk := by
        obtain e | e := hsnap <;> rw [e]
        · exact h.snapshotOk
        · exact h.sensorsOk
      fanSnapshotOk := by
        obtain e | e := hfan <;> rw [e]
        · exact h.fanSnapshotOk
        · exact fans_of_sensorsOk h.sensorsOk
      unbound := by rw [hlife, State.bound, hbus]; exact h.unbound
      slotsOk := fun hlive => storeReg_slotsConsistent i v (h.slotsOk (hlife.symm.trans hlive)) h.paramsOk }

theorem exec_inv {i : Instr} {s t : State} (h : s.Inv) (ht : exec i s = .next t) : t.Inv := by
  obtain ⟨-, e⟩ | ⟨n, -, e⟩ | ⟨n, -, e⟩ | ⟨v, -, e⟩ | ⟨n, v, -, e⟩ := exec_cases i s <;> cases e.symm.trans ht
  case inr.inr.inr.inr => exact inv_congr (storeReg_inv (idx n) v h) rfl rfl rfl rfl rfl rfl rfl
  all_goals exact inv_congr h rfl rfl rfl rfl rfl rfl rfl

theorem created_inv {s : State} (c : Byte) (h : s.params.WellFormed = true) :
    ({ s.created c with last := .done } : State).Inv where
  paramsOk := h
  sensorsOk := seed_wellFormed h
  snapshotOk := seed_wellFormed h
  fanSnapshotOk := fans_of_sensorsOk (seed_wellFormed h)
  unbound := fun hlife => absurd rfl hlife
  slotsOk := fun _ => slotsConsistent_congr
    (applyReset_slotsConsistent (s := { s with sensors := Sensors.seed s.params }) h) rfl rfl rfl rfl

theorem callHost_inv {op : HostOp} {s t : State} (h : s.Inv) (ht : callHost op s = .next t) : t.Inv := by
  obtain ⟨c, -, -, hparams, -, rfl⟩ | ⟨_, -, -, -, -, rfl⟩ | ⟨-, hlive, rfl⟩ | ⟨a, -, hlive, rfl⟩ | ⟨rs, -, hrs, rfl⟩ :=
    callHost_cases ht
  · exact created_inv c hparams
  · exact inv_congr h rfl rfl rfl rfl rfl rfl rfl
  · exact { h with unbound := fun _ => rfl, slotsOk := nofun }
  · exact { h with
      unbound := fun hlife => absurd hlive hlife
      slotsOk := fun hlife => slotsConsistent_congr (h.slotsOk hlife) rfl rfl rfl rfl }
  · exact { h with
      sensorsOk := updateAll_wellFormed h.sensorsOk hrs
      slotsOk := fun hlife => slotsConsistent_congr (h.slotsOk hlife) rfl rfl rfl rfl }

/-- A transaction that answers a next state ran its instruction, or left the chip alone (R140, R191). -/
theorem transact_next {A : BusAddress} {d : Descriptor} {s t : State} (ht : transact A d s = .next t) :
    (∃ i, exec i s = .next t) ∨ t = { s with last := .notDelivered A } := by
  cases hd : decode d with
  | error e =>
    cases e with
    | noSuchShape => cases (transact_noSuchShape A s hd).symm.trans ht
    | nonCanonical => cases (transact_nonCanonical A s hd).symm.trans ht
  | ok i =>
    rw [transact_ok s A hd] at ht
    cases hans : s.answers A with
    | true => exact .inl ⟨i, (deliver_answers s i hans).symm.trans ht⟩
    | false => cases (deliver_not s i hans).symm.trans ht; exact .inr rfl

theorem handle_inv {e : Event} {s t : State} (h : s.Inv) (ht : handle e s = .next t) : t.Inv := by
  cases e with
  | host op => exact callHost_inv h ht
  | transact A d =>
    obtain ⟨i, hi⟩ | rfl := transact_next ht
    · exact exec_inv h hi
    · exact inv_congr h rfl rfl rfl rfl rfl rfl rfl

/-- Settles O54: the invariant does not speak of the queue, so it holds of the state without the event, and running the
event keeps it. -/
theorem stepKeepsTheInvariant : Obligations.StepKeepsTheInvariant := by
  intro s t h ht
  cases hpending : s.pending with
  | nil =>
    cases (step_idle s hpending).symm.trans ht
    exact h
  | cons e rest =>
    rw [step_event s hpending] at ht
    exact handle_inv (s := { s with pending := rest }) (inv_congr h rfl rfl rfl rfl rfl rfl rfl) ht

/-- Settles O53: the state after reset is a created chip. -/
theorem resetStateMeetsTheInvariant : Obligations.ResetStateMeetsTheInvariant :=
  created_inv (s := State.uncreated Config.params (Sensors.seed Config.params)) 0x2C configParams_wellFormed

end Sys2Proof.Laws
end

section
/-! PROOFS. Hidden state never reaches an observer (R39): states that look alike step to states that look alike, with the
same outcome. -/

namespace Sys2Proof.Laws

open Sys2Proof.Machine

theorem sameView_symm {s t : State} (h : SameView s t) : SameView t s :=
  ⟨fun i => (h.slots i).symm, h.selected.symm, h.bus.symm, h.life.symm, h.sensors.symm, h.params.symm, h.pending.symm,
    h.last.symm⟩

/-! ### Reads and writes of states that look alike (R112, R117 to R122) -/

/-- Two register arrays that every read shapes alike. -/
def AlikeSlots (r r' : Slots) : Prop := ∀ i, shape i (readSlot r i) = shape i (readSlot r' i)

theorem alikeSlots_refl (r : Slots) : AlikeSlots r r := fun _ => rfl

theorem alikeSlots_writeSlot {r r' : Slots} (h : AlikeSlots r r') (i : Index) (v : Slot) :
    AlikeSlots (writeSlot r i v) (writeSlot r' i v) := by
  intro j
  rw [readSlot_writeSlot, readSlot_writeSlot]
  split
  · rfl
  · exact h j

section alike
variable {s t : State} (h : SameView s t)
include h

theorem readReg_of_sameView {n m : Byte} (hidx : idx n = idx m) : readReg n s = readReg m t := by
  rw [readReg, readReg, hidx, h.slots]

theorem answers_of_sameView (A : BusAddress) : s.answers A = t.answers A := by
  rw [State.answers, State.answers, State.bound, State.bound, h.life, h.bus]

/-- A write stores values computed from its operand, the readings and the parameters, never from a hidden bit. -/
theorem storeReg_alikeSlots (i : Index) (v : Slot) : AlikeSlots (storeReg i v s).regs (storeReg i v t).regs := by
  have hslots : AlikeSlots s.regs t.regs := h.slots
  obtain ⟨hro, e⟩ | ⟨rfl, e⟩ | ⟨rfl, hb, e⟩ | ⟨rfl, hb, e⟩ | ⟨rfl, -⟩ | ⟨rfl, e⟩ | ⟨hv, e⟩ := storeReg_cases v s i
  · rw [e, storeReg_readOnly v t hro]
    exact hslots
  · rw [e, storeReg_0A]
    exact alikeSlots_writeSlot (alikeSlots_writeSlot hslots _ _) _ _
  · rw [e, storeReg_03, if_pos hb, applyReset_regs, applyReset_regs, setReg_params, setReg_params, setReg_sensors,
      setReg_sensors, h.params, h.sensors]
    exact alikeSlots_refl _
  · rw [e, storeReg_03, hb]
    exact alikeSlots_writeSlot hslots _ _
  · rw [storeReg_0F_regs, storeReg_0F_regs, h.sensors]
    exact alikeSlots_writeSlot (alikeSlots_writeSlot hslots _ _) _ _
  · rw [e, storeReg_11]
    exact alikeSlots_writeSlot hslots _ _
  · rw [e, storeReg_verbatim v t hv]
    exact alikeSlots_writeSlot hslots _ _

theorem storeReg_sameView (i : Index) (v : Slot) : SameView (storeReg i v s) (storeReg i v t) := by
  obtain ⟨hsel, hbus, -, hlife, hsensors, hparams, hpending, hlast⟩ := storeReg_frame v s i
  obtain ⟨hsel', hbus', -, hlife', hsensors', hparams', hpending', hlast'⟩ := storeReg_frame v t i
  exact
    { slots := storeReg_alikeSlots h i v
      selected := by rw [hsel, hsel', h.selected]
      bus := by rw [hbus, hbus', h.bus]
      life := by rw [hlife, hlife', h.life]
      sensors := by rw [hsensors, hsensors', h.sensors]
      params := by rw [hparams, hparams', h.params]
      pending := by rw [hpending, hpending', h.pending]
      last := by rw [hlast, hlast', h.last] }

/-- The phase is not seen, and equal outcomes look alike. -/
theorem sameView_with_last (p p' : Phase) {r r' : Result} (hr : r = r') :
    SameView { s with phase := p, last := r } { t with phase := p', last := r' } :=
  ⟨h.slots, h.selected, h.bus, h.life, h.sensors, h.params, h.pending, hr⟩

/-! ### One step of states that look alike -/

theorem exec_sameView (i : Instr) : ∃ s' t', exec i s = .next s' ∧ exec i t = .next t' ∧ SameView s' t' := by
  rw [exec_eq_respond, exec_eq_respond]
  have hread {n m : Byte} (hidx : idx n = idx m) : readReg n s = readReg m t := readReg_of_sameView h hidx
  cases i.request with
  | rdb => exact ⟨_, _, rfl, rfl, sameView_with_last h _ _ (by rw [hread h.selected])⟩
  | rdbc n => exact ⟨_, _, rfl, rfl, sameView_with_last h _ _ (by rw [hread rfl])⟩
  | rdwc n => exact ⟨_, _, rfl, rfl, sameView_with_last h _ _ (by rw [hread rfl])⟩
  | wrs v => exact ⟨_, _, rfl, rfl, ⟨h.slots, rfl, h.bus, h.life, h.sensors, h.params, h.pending, rfl⟩⟩
  | wrbc n v => exact ⟨_, _, rfl, rfl, sameView_with_last (storeReg_sameView h _ _) _ _ rfl⟩
  | wrwc n v => exact ⟨_, _, rfl, rfl, sameView_with_last (storeReg_sameView h _ _) _ _ rfl⟩

theorem transact_sameView {A : BusAddress} {d : Descriptor} {s' : State} (hs : transact A d s = .next s') :
    ∃ t', transact A d t = .next t' ∧ SameView s' t' := by
  cases hd : decode d with
  | error e =>
    cases e with
    | noSuchShape => cases (transact_noSuchShape A s hd).symm.trans hs
    | nonCanonical => cases (transact_nonCanonical A s hd).symm.trans hs
  | ok i =>
    rw [transact_ok s A hd] at hs
    rw [transact_ok t A hd]
    cases hans : s.answers A with
    | true =>
      obtain ⟨_, t', hs', ht', hview⟩ := exec_sameView h i
      cases ((deliver_answers s i hans).trans hs').symm.trans hs
      exact ⟨t', (deliver_answers t i ((answers_of_sameView h A).symm.trans hans)).trans ht', hview⟩
    | false =>
      cases (deliver_not s i hans).symm.trans hs
      exact ⟨_, deliver_not t i ((answers_of_sameView h A).symm.trans hans), sameView_with_last h _ _ rfl⟩

theorem callHost_sameView {op : HostOp} {s' : State} (hs : callHost op s = .next s') :
    ∃ t', callHost op t = .next t' ∧ SameView s' t' := by
  obtain ⟨c, rfl, hlife, hparams, hsensors, rfl⟩ | ⟨c, rfl, hlife, hparams, hsensors, rfl⟩ | ⟨rfl, hlive, rfl⟩ |
    ⟨a, rfl, hlive, rfl⟩ | ⟨rs, rfl, hrs, rfl⟩ := callHost_cases hs
  · rw [h.life] at hlife
    rw [h.params] at hparams
    rw [h.sensors] at hsensors
    refine ⟨_, createChip_completes c hlife hparams hsensors, ?_⟩
    exact ⟨by simp [h.params], rfl, rfl, rfl, by simp [h.params], h.params, h.pending, rfl⟩
  · rw [h.life] at hlife
    rw [h.params] at hparams
    rw [h.sensors] at hsensors
    exact ⟨_, failedCreateLeavesNothing t c hlife hparams hsensors, sameView_with_last h _ _ rfl⟩
  · exact ⟨_, destroyChip_of_live (h.life.symm.trans hlive),
      ⟨h.slots, h.selected, rfl, rfl, h.sensors, h.params, h.pending, rfl⟩⟩
  · exact ⟨_, remapChip_of_live a (h.life.symm.trans hlive),
      ⟨h.slots, h.selected, rfl, h.life, h.sensors, h.params, h.pending, rfl⟩⟩
  · exact ⟨_, updateSensors_of_wellFormed t hrs,
      ⟨h.slots, h.selected, h.bus, h.life, congrArg (·.updateAll rs) h.sensors, h.params, h.pending, rfl⟩⟩

/-- When one of two states that look alike steps, so does the other, and they look alike again. -/
theorem step_sameView {s' : State} (hs : step s = .next s') : ∃ t', step t = .next t' ∧ SameView s' t' := by
  cases hp : s.pending with
  | nil =>
    cases (step_idle s hp).symm.trans hs
    exact ⟨t, step_idle t (h.pending.symm.trans hp), h⟩
  | cons e rest =>
    have hrest : SameView { s with pending := rest } { t with pending := rest } :=
      ⟨h.slots, h.selected, h.bus, h.life, h.sensors, h.params, rfl, h.last⟩
    rw [step_event s hp] at hs
    rw [step_event t (h.pending.symm.trans hp)]
    cases e with
    | transact A d => exact transact_sameView hrest hs
    | host op => exact callHost_sameView hrest hs

end alike

/-! ### Runs -/

theorem observations_of_next {s s' : State} (k : Nat) (h : step s = .next s') : observations (k + 1) s =
    (if s.pending ≠ [] ∧ s'.last.isRead then [s'.last] else []) ++ observations k s' := by
  rw [observations, h]

/-- A step without a next state ends the run. -/
theorem observations_of_not_next {s : State} (k : Nat) (h : ∀ s', step s ≠ .next s') : observations (k + 1) s = [] := by
  rw [observations]
  split
  · next s' hs => exact absurd hs (h s')
  · rfl
  · rfl

/-- Settles O55, by induction on the number of steps: the two runs go on together and return equal results, or stop at the
same step, since looking alike is symmetric. -/
theorem hiddenStateIsNeverObserved : Obligations.HiddenStateIsNeverObserved := by
  intro k
  induction k with
  | zero => exact fun _ _ _ => rfl
  | succ k ih =>
    intro s t h
    by_cases hnext : ∃ s', step s = .next s'
    · obtain ⟨s', hs⟩ := hnext
      obtain ⟨t', ht, hview⟩ := step_sameView h hs
      rw [observations_of_next k hs, observations_of_next k ht, h.pending, hview.last, ih s' t' hview]
    · have hstop : ∀ t', step t ≠ .next t' := fun t' ht =>
        have ⟨s', hs, _⟩ := step_sameView (sameView_symm h) ht
        hnext ⟨s', hs⟩
      rw [observations_of_not_next k fun s' hs => hnext ⟨s', hs⟩, observations_of_not_next k hstop]

end Sys2Proof.Laws
end

section
/-! PROOFS. Several chips on one bus (R65, R140, R153, R199): one law for each platform event, which chip a step changes,
and that live chips stay at different addresses. -/

namespace Sys2Proof.Laws

open Sys2Proof.Machine

/-! ### What a platform event can do -/

section events
variable {p q : Platform}

theorem provide_next {S : Sensors} (h : p.provide S = .next q) :
    S.WellFormed = true ∧ q = { p with sources := p.sources ++ [S], last := .done } := by
  unfold Platform.provide at h
  split at h <;> cases h
  next hS => exact ⟨hS, rfl⟩

theorem attach_next {params : Params} {m : Nat} (h : p.attach params m = .next q) :
    ∃ S, q = { p with chips := p.chips ++ [⟨m, State.uncreated params S⟩], last := .done } := by
  unfold Platform.attach at h
  split at h <;> cases h
  next S _ => exact ⟨S, rfl⟩

theorem call_of_clash_none {k : Nat} {op : HostOp} (h : p.clash k op = none) :
    p.call k op = p.onChip k (callHost op) := by
  rw [Platform.call, h]

theorem call_next {k : Nat} {op : HostOp} (h : p.call k op = .next q) : p.clash k op = none ∧
    ∃ c t, p.chips[k]? = some c ∧ callHost op (p.view c) = .next t ∧ q = p.stepped k c t := by
  unfold Platform.call at h
  split at h
  · cases h
  next hclash => exact ⟨hclash, onChip_next h⟩

/-- A transaction no chip answers changes nothing (R140). -/
theorem transact_no_taker {A : BusAddress} {d : Descriptor} {i : Instr} (hd : decode d = .ok i)
    (hnone : ∀ c ∈ p.chips, c.state.answers A = false) :
    p.transact A d = .next { p with last := .notDelivered A } := by
  have hidx : p.chips.findIdx? (fun c => c.state.answers A) = none := List.findIdx?_eq_none_iff.2 hnone
  simp only [Platform.transact, hd, hidx]

/-- A transaction that answers a next platform had no taker, or stepped one chip that answers it. -/
theorem platform_transact_next {A : BusAddress} {d : Descriptor} (h : p.transact A d = .next q) :
    q = { p with last := .notDelivered A } ∨
    ∃ i k c t, p.chips[k]? = some c ∧ c.state.answers A = true ∧ exec i (p.view c) = .next t ∧
      q = p.stepped k c t := by
  unfold Platform.transact at h
  split at h
  · cases h
  · cases h
  next i hd =>
  split at h
  · cases h
    exact .inl rfl
  next k hk =>
  obtain ⟨c, t, hc, ht, rfl⟩ := onChip_next h
  obtain ⟨hlt, hans, -⟩ := List.findIdx?_eq_some_iff_getElem.1 hk
  obtain rfl : p.chips[k] = c := Option.some.inj ((List.getElem?_eq_getElem hlt).symm.trans hc)
  exact .inr ⟨i, k, _, t, hc, hans, ht, rfl⟩

end events

/-! ### The chips and sources after one chip stepped -/

section stepped
variable {p : Platform} {k : Nat} {c : Attached} (t : State)

theorem stepped_chips_same (hc : p.chips[k]? = some c) :
    (p.stepped k c t).chips[k]? = some { c with state := t } := by
  obtain ⟨hlt, -⟩ := List.getElem?_eq_some_iff.1 hc
  exact List.getElem?_set_self hlt

theorem stepped_chips_ne {j : Nat} (hj : j ≠ k) : (p.stepped k c t).chips[j]? = p.chips[j]? :=
  List.getElem?_set_ne hj.symm

/-- A chip that leaves its readings as it found them leaves its source as it was. -/
theorem stepped_sources_of_sensors {t : State} (ht : t.sensors = (p.view c).sensors) :
    (p.stepped k c t).sources = p.sources := by
  rw [stepped_sources, ht, view_sensors]
  by_cases hlt : c.source < p.sources.length
  · rw [List.getD_eq_getElem _ _ hlt, List.set_getElem_self]
  · exact List.set_eq_of_length_le (Nat.not_lt.1 hlt)

/-- The readings a step leaves are those every chip of its source sees next. -/
theorem view_stepped_same {e : Attached} (he : e.source = c.source) (hlt : c.source < p.sources.length) :
    ((p.stepped k c t).view e).sensors = t.sensors := by
  rw [view_sensors, stepped_sources, he, List.getD_eq_getElem?_getD, List.getElem?_set_self hlt, Option.getD_some]

theorem view_stepped_ne {e : Attached} (he : e.source ≠ c.source) : (p.stepped k c t).view e = p.view e := by
  rw [Platform.view, Platform.view, stepped_sources, List.getD_eq_getElem?_getD, List.getElem?_set_ne he.symm,
    List.getD_eq_getElem?_getD]

end stepped

/-! ### Which chip a step changes (R140, R153) -/

/-- Two chips that answer one address are live and bound there, so chips that are apart have one taker. -/
theorem taker_unique {p : Platform} {A : BusAddress} {j k : Nat} {c e : Attached} (hp : p.Apart)
    (hj : p.chips[j]? = some c) (hk : p.chips[k]? = some e) (hc : c.state.answers A = true)
    (he : e.state.answers A = true) : j = k := by
  obtain ⟨hclive, hcbound, hcaddr⟩ := (answers_iff _ _).1 hc
  obtain ⟨helive, -, headdr⟩ := (answers_iff _ _).1 he
  exact hp j k c e hj hk hclive helive (decide_eq_true hcbound) (BitVec.eq_of_toNat_eq (hcaddr.symm.trans headdr))

theorem findIdx?_taker {p : Platform} {A : BusAddress} {k : Nat} {c : Attached} (hp : p.Apart)
    (hk : p.chips[k]? = some c) (hc : c.state.answers A = true) :
    p.chips.findIdx? (fun c => c.state.answers A) = some k := by
  cases hidx : p.chips.findIdx? (fun c => c.state.answers A) with
  | none =>
    have := List.findIdx?_eq_none_iff.1 hidx c (List.mem_of_getElem? hk)
    exact absurd (hc.symm.trans this) nofun
  | some m =>
    obtain ⟨hlt, hans, -⟩ := List.findIdx?_eq_some_iff_getElem.1 hidx
    rw [taker_unique hp (List.getElem?_eq_getElem hlt) hk hans hc]

/-- On chips that are apart, the one that answers a transaction runs it. -/
theorem transact_taker {p : Platform} {A : BusAddress} {d : Descriptor} {i : Instr} {k : Nat} {c : Attached} {t : State}
    (hp : p.Apart) (hd : decode d = .ok i) (hk : p.chips[k]? = some c) (hc : c.state.answers A = true)
    (ht : exec i (p.view c) = .next t) : p.transact A d = .next (p.stepped k c t) := by
  simp only [Platform.transact, hd, findIdx?_taker hp hk hc]
  exact onChip_of hk ht

/-- Settles O59, clause by clause from the laws of the events. -/
theorem chipsDoNotDisturbEachOther : Obligations.ChipsDoNotDisturbEachOther := by
  refine ⟨?taker, ?noTaker, ?bystander, ?called, ?notCalled, ?attach, ?provide⟩
  case taker =>
    intro p A d i k c hp hd hk hc
    obtain ⟨t, ht, -⟩ := everyTransactionCompletes i (p.view c)
    obtain ⟨-, -, hsensors, -⟩ := transactionsLeaveTheHostSideAlone i _ t ht
    exact ⟨t, p.stepped k c t, ht, transact_taker hp hd hk hc ht, stepped_chips_same t hk,
      fun j hj => stepped_chips_ne t hj, stepped_sources_of_sensors hsensors, rfl⟩
  case noTaker => exact fun p A d i hd hnone => transact_no_taker hd hnone
  case bystander =>
    intro p q A d j c hq hj hc
    obtain rfl | ⟨i, k, e, t, hk, he, -, rfl⟩ := platform_transact_next hq
    · exact hj
    · have hne : j ≠ k := by
        rintro rfl
        cases hj.symm.trans hk
        exact absurd (hc.symm.trans he) nofun
      exact (stepped_chips_ne t hne).trans hj
  case called =>
    intro p k op c t hclash hk ht
    exact ⟨p.stepped k c t, (call_of_clash_none hclash).trans (onChip_of hk ht), stepped_chips_same t hk, rfl,
      fun e he hlt => view_stepped_same t he hlt, fun e he => view_stepped_ne t he⟩
  case notCalled =>
    intro p q k j op hq hj
    obtain ⟨-, c, t, -, -, rfl⟩ := call_next hq
    exact stepped_chips_ne t hj
  case attach =>
    intro p q params m j c hq hj
    obtain ⟨S, rfl⟩ := attach_next hq
    obtain ⟨hlt, -⟩ := List.getElem?_eq_some_iff.1 hj
    exact (List.getElem?_append_left hlt).trans hj
  case provide =>
    intro p q S hq
    obtain ⟨hS, rfl⟩ := provide_next hq
    exact ⟨hS, rfl⟩

/-! ### Live chips stay apart (R65; I15, D26) -/

theorem occupied_iff (p : Platform) (k : Nat) (a : Byte) : p.occupied k a = true ↔
    ∃ j c, j ≠ k ∧ p.chips[j]? = some c ∧ c.state.life = .live ∧ c.state.bus = a := by
  simp only [Platform.occupied, List.any_eq_true, List.mem_range, Bool.and_eq_true, bne_iff_ne, Option.any_eq_true,
    decide_eq_true_eq]
  constructor
  · rintro ⟨j, -, hj, c, hc, hlive, hbus⟩
    exact ⟨j, c, hj, hc, hlive, hbus⟩
  · rintro ⟨j, c, hj, hc, hlive, hbus⟩
    exact ⟨j, (List.getElem?_eq_some_iff.1 hc).1, hj, c, hc, hlive, hbus⟩

/-- The address of a chip that is apart from the others is free for it. -/
theorem occupied_own_bus {p : Platform} {k : Nat} {c : Attached} (hp : p.Apart) (hk : p.chips[k]? = some c)
    (hlive : c.state.life = .live) (hbound : c.state.bound = true) : p.occupied k c.state.bus = false := by
  rw [← Bool.not_eq_true, occupied_iff]
  rintro ⟨j, e, hj, he, helive, hbus⟩
  exact hj (hp k j c e hk he hlive helive hbound hbus.symm).symm

/-- An operation that clashes with no chip binds at a free address. -/
theorem occupied_of_clash_none {p : Platform} {k : Nat} {op : HostOp} {a : Byte} (h : p.clash k op = none)
    (hb : op.bindsAt = some a) : p.occupied k a = false := by
  simpa [Platform.clash, hb, Option.filter] using h

/-- Chips stay apart when one of them steps to a chip that is not live, not bound, or at a free address. -/
theorem apart_stepped {p : Platform} {k : Nat} {c : Attached} {t : State} (hp : p.Apart) (hk : p.chips[k]? = some c)
    (hfree : t.life = .live → t.bound = true → p.occupied k t.bus = false) : (p.stepped k c t).Apart := by
  intro j m a b hj hm halive hblive habound hbus
  have hself {m : Nat} {e : Attached} (hne : m ≠ k) (he : (p.stepped k c t).chips[m]? = some e)
      (hlive : e.state.life = .live) (htlive : t.life = .live) (htbound : t.bound = true) : e.state.bus ≠ t.bus := by
    intro hbus
    have hocc : p.occupied k t.bus = true :=
      (occupied_iff p k t.bus).2 ⟨m, e, hne, (stepped_chips_ne t hne).symm.trans he, hlive, hbus⟩
    exact absurd (hocc.symm.trans (hfree htlive htbound)) nofun
  by_cases hjk : j = k <;> by_cases hmk : m = k
  · rw [hjk, hmk]
  · subst hjk
    cases (stepped_chips_same t hk).symm.trans hj
    exact absurd hbus.symm (hself hmk hm hblive halive habound)
  · subst hmk
    cases (stepped_chips_same t hk).symm.trans hm
    refine absurd hbus (hself hjk hj halive hblive ?_)
    rwa [State.bound, hbus] at habound
  · exact hp j m a b ((stepped_chips_ne t hjk).symm.trans hj) ((stepped_chips_ne t hmk).symm.trans hm) halive hblive
      habound hbus

/-- A chip that a step leaves live at its old address is still the only one there. -/
theorem apart_stepped_of_same_bus {p : Platform} {k : Nat} {c : Attached} {t : State} (hp : p.Apart)
    (hk : p.chips[k]? = some c) (hlife : t.life = c.state.life) (hbus : t.bus = c.state.bus) :
    (p.stepped k c t).Apart := by
  refine apart_stepped hp hk fun hlive hbound => ?_
  rw [State.bound, hbus] at hbound
  rw [hbus]
  exact occupied_own_bus hp hk (hlife.symm.trans hlive) hbound

theorem apart_call {p : Platform} {k : Nat} {c : Attached} {op : HostOp} {t : State} (hp : p.Apart)
    (hclash : p.clash k op = none) (hk : p.chips[k]? = some c) (ht : callHost op (p.view c) = .next t) :
    (p.stepped k c t).Apart := by
  obtain ⟨a, rfl, -, -, -, rfl⟩ | ⟨_, -, -, -, -, rfl⟩ | ⟨-, -, rfl⟩ | ⟨a, rfl, -, rfl⟩ | ⟨_, -, -, rfl⟩ :=
    callHost_cases ht
  · exact apart_stepped hp hk fun _ _ => occupied_of_clash_none hclash rfl
  · exact apart_stepped_of_same_bus hp hk rfl rfl
  · exact apart_stepped hp hk nofun
  · exact apart_stepped hp hk fun _ hbound => occupied_of_clash_none hclash (if_pos (of_decide_eq_true hbound))
  · exact apart_stepped_of_same_bus hp hk rfl rfl

/-- A chip attached to a platform is not created yet, so it is at no address. -/
theorem apart_attach {p : Platform} {c : Attached} (sources : List Sensors) (last : Result) (hp : p.Apart)
    (hc : c.state.life ≠ .live) : (⟨sources, p.chips ++ [c], last⟩ : Platform).Apart := by
  have hold {m : Nat} {e : Attached} (he : (p.chips ++ [c])[m]? = some e) (hlive : e.state.life = .live) :
      p.chips[m]? = some e := by
    rw [List.getElem?_append] at he
    split at he
    · exact he
    · rw [List.getElem?_singleton] at he
      split at he <;> cases he
      exact absurd hlive hc
  intro j m a b hj hm halive hblive habound hbus
  exact hp j m a b (hold hj halive) (hold hm hblive) halive hblive habound hbus

/-- Settles O60: the one chip a step changes keeps its life and address, is unbound, or is bound where no other is. -/
theorem platformStaysApart : Obligations.PlatformStaysApart := by
  intro p q e hp hq
  cases e with
  | provide S =>
    obtain ⟨-, rfl⟩ := provide_next hq
    exact hp
  | attach params m =>
    obtain ⟨S, rfl⟩ := attach_next hq
    exact apart_attach _ _ hp nofun
  | transact A d =>
    obtain rfl | ⟨i, k, c, t, hk, -, ht, rfl⟩ := platform_transact_next hq
    · exact hp
    · obtain ⟨hbus, hlife, -⟩ := transactionsLeaveTheHostSideAlone i _ t ht
      exact apart_stepped_of_same_bus hp hk hlife hbus
  | call k op =>
    obtain ⟨hclash, c, t, hk, ht, rfl⟩ := call_next hq
    exact apart_call hp hclash hk ht

end Sys2Proof.Laws
end
